-- ==== Sys2Proof/Word.lean ====
section
/-! DEFINITION. The bit-vector widths TWSEQ uses (00_scope.md R15, R16). Every value is unsigned. -/

namespace Sys2Proof

/-- A data byte or an 8-bit bus status (R15). -/
abbrev Byte := BitVec 8

/-- A 16-bit raw value (R15, R28). -/
abbrev Raw := BitVec 16

/-- A host data word (R15). -/
abbrev Word := BitVec 32

/-- A bus-link request word, format BL_REQ (R57). -/
abbrev ReqWord := BitVec 11

/-- A bus-link response word, format BL_RSP (R60). -/
abbrev RspWord := BitVec 16

end Sys2Proof
end

