-- ==== Sys2Proof/Config.lean ====
section
/-! DEFINITION. What an implementation of TWSEQ fixes (00_scope.md R6-R13) and the free values. -/

namespace Sys2Proof

/-- `STOP_POLICY` (R6): after which failed steps the closing stop is issued. -/
inductive StopPolicy where
  | always
  | source
deriving DecidableEq, Repr

/-- The open parameters of R6 to R13. The platform's address is a plain number: the spec gives it no width. -/
structure Params where
  stopPolicy : StopPolicy
  expStart : Byte
  expSlaWAck : Byte
  expDataWAck : Byte
  expSlaRAck : Byte
  expDataRAck : Byte
  expDataRNack : Byte
  windowBase : Nat
deriving DecidableEq, Repr

namespace Config

/-- `EXP_START` of the platform (R7): open, so it has no body. -/
opaque expStart : Byte
/-- `EXP_SLA_W_ACK` of the platform (R8): open. -/
opaque expSlaWAck : Byte
/-- `EXP_DATA_W_ACK` of the platform (R9): open. -/
opaque expDataWAck : Byte
/-- `EXP_SLA_R_ACK` of the platform (R10): open. -/
opaque expSlaRAck : Byte
/-- `EXP_DATA_R_ACK` of the platform (R11): open. -/
opaque expDataRAck : Byte
/-- `EXP_DATA_R_NACK` of the platform (R12): open. -/
opaque expDataRNack : Byte
/-- `WINDOW_BASE` of the platform (R13): open. -/
opaque windowBase : Nat

/-- Free values: the bytes that B[7..12] hold after a reset (R41, U5: "any value"). Log entry 5. -/
opaque freeByte : Nat → Byte

/-- The platform TWSEQ is reset on: the stop policy at its default (R6), every other parameter open. Log entry 1. -/
def platform : Params where
  stopPolicy := .always
  expStart := expStart
  expSlaWAck := expSlaWAck
  expDataWAck := expDataWAck
  expSlaRAck := expSlaRAck
  expDataRAck := expDataRAck
  expDataRNack := expDataRNack
  windowBase := windowBase

end Config

end Sys2Proof
end

