-- ==== Sys2Proof/Syntax.lean ====
section
/-! DEFINITION. The operations of spec/opcode_table.json, one constructor of `Instr` per row, and the encoded words
they stand for (30_encoding.md R57-R68). -/

namespace Sys2Proof

/-- TransactionStep: the twelve protocol phases of the step table (00_scope.md glossary; R62). -/
inductive TransactionStep where
  | s1 | s2 | s3 | s4 | s5 | s6 | s7 | s8 | s9 | s10 | s11 | s12
deriving DecidableEq, Repr

/-- The BusLink operations of R58. -/
inductive BusOp where
  | start | restart | write | readAck | readNack | stop | status
deriving DecidableEq, Repr

/-- The operations of TWSEQ.
Bus-link rows (R74-R80) carry the BL_RSP word that answers the request, as a line of the bus-link stream does (R69).
Host rows (R120-R130) carry the 32-bit data of a write.
Step-ROM rows (R94-R105, R110) are taken `on Response(status, rdata)` and carry that BL_RSP word.
`validate` carries the three bytes of its CRC_IN word (R83, R70). -/
inductive Instr where
  | start (rsp : RspWord)
  | restart (rsp : RspWord)
  | write (data : Byte) (rsp : RspWord)
  | readAck (rsp : RspWord)
  | readNack (rsp : RspWord)
  | stop (rsp : RspWord)
  | status (rsp : RspWord)
  | rdCtrl
  | wrCtrl (data : Word)
  | rdStatus
  | rdRawP
  | rdRawS
  | rdErr
  | rdCrcIn
  | wrCrcIn (data : Word)
  | rdCrcOut
  | wrRoStatus (data : Word)
  | wrRoRawP (data : Word)
  | wrRoRawS (data : Word)
  | wrRoErr (data : Word)
  | wrRoCrcOut (data : Word)
  | rdRsv
  | wrRsv (data : Word)
  | seqStep1 (rsp : RspWord)
  | seqStep2 (rsp : RspWord)
  | seqStep3 (rsp : RspWord)
  | seqStep4 (rsp : RspWord)
  | seqStep5 (rsp : RspWord)
  | seqStep6 (rsp : RspWord)
  | seqStep7 (rsp : RspWord)
  | seqStep8 (rsp : RspWord)
  | seqStep9 (rsp : RspWord)
  | seqStep10 (rsp : RspWord)
  | seqStep11 (rsp : RspWord)
  | seqStep12 (rsp : RspWord)
  | seqClose (rsp : RspWord)
  | validate (h l c : Byte)
deriving DecidableEq, Repr

/-- An encoded operation: the word of the table's format, and the operand word the table gives no bits
(the BL_RSP word beside a BL_REQ word or an ST value, the data beside a HOST_ACC descriptor). Log entry 19. -/
inductive Code where
  | blReq (req : ReqWord) (rsp : RspWord)
  | hostAcc (desc : BitVec 9) (data : Word)
  | stepRom (st : BitVec 4) (rsp : RspWord)
  | crcIn (word : Word)
deriving DecidableEq, Repr

end Sys2Proof
end

