-- ==== Sys2Proof/WellFormed.lean ====
section
/-! DEFINITION. Which encoded operations and which instructions are well formed (30_encoding.md R59, R63, R70). -/

namespace Sys2Proof

/-- A code is well formed when a row of spec/opcode_table.json has its word:
a request other than WRITE has DATA = 0x00 and OP is not 0b111 (R58, R59);
a descriptor is one of the sixteen of R64 (R63);
ST selects a row (R62);
a VALIDATE word has bits 31:24 zero (R70). -/
def Code.wf : Code → Bool
  | .blReq req _ =>
      (req.extractLsb' 8 3 != 7#3) && ((req.extractLsb' 8 3 == 2#3) || (req.extractLsb' 0 8 == 0#8))
  | .hostAcc desc _ => (desc.extractLsb' 0 2 == 0#2) && (desc.extractLsb' 5 3 == 0#3)
  | .stepRom st _ => (st != 0#4) && (st != 14#4) && (st != 15#4)
  | .crcIn word => word.extractLsb' 24 8 == 0#8

/-- Every term of `Instr` is well formed: each operand has exactly the width of its field (R57, R60, R63, R34), and every
value of each field is legal (R35, R59, R60, R77). A read carries no data word: its constructor has no field for one. -/
def Instr.wf : Instr → Bool
  | .start _ | .restart _ | .write _ _ | .readAck _ | .readNack _ | .stop _ | .status _ => true
  | .rdCtrl | .rdStatus | .rdRawP | .rdRawS | .rdErr | .rdCrcIn | .rdCrcOut | .rdRsv => true
  | .wrCtrl _ | .wrCrcIn _ | .wrRsv _ => true
  | .wrRoStatus _ | .wrRoRawP _ | .wrRoRawS _ | .wrRoErr _ | .wrRoCrcOut _ => true
  | .seqStep1 _ | .seqStep2 _ | .seqStep3 _ | .seqStep4 _ | .seqStep5 _ | .seqStep6 _ => true
  | .seqStep7 _ | .seqStep8 _ | .seqStep9 _ | .seqStep10 _ | .seqStep11 _ | .seqStep12 _ => true
  | .seqClose _ => true
  | .validate _ _ _ => true

end Sys2Proof
end

