-- ==== Sys2Proof/Decode.lean ====
section
/-! DEFINITION. Decoding and encoding of the four formats (30_encoding.md R57-R68; spec/opcode_table.json). -/

namespace Sys2Proof

/-- Why a word has no operation. -/
inductive DecodeError where
  /-- BL_REQ with OP = 0b111 (R66). -/
  | reservedOp
  /-- HOST_ACC with OFF outside 0x00..0x1C or not a multiple of 4 (R63, R66). -/
  | notAdmitted
  /-- ST = 0: no step-ROM row, no response is awaited (R21, R119). -/
  | idleState
  /-- ST = 14 or 15 (R21, R66). -/
  | unreachableState
  /-- A VALIDATE word whose bits 31:24 are not zero (R70; log entry 21). -/
  | queryTopByte
  deriving DecidableEq, Repr

/-- A decoded operation, or the name of the reason there is none. -/
inductive Decoded where
  | ok (i : Instr)
  | bad (e : DecodeError)
  deriving DecidableEq, Repr

/-- The op codes of R58. -/
def BusOp.code : BusOp → BitVec 3
  | .start => 0b000#3
  | .restart => 0b001#3
  | .write => 0b010#3
  | .readAck => 0b011#3
  | .readNack => 0b100#3
  | .stop => 0b101#3
  | .status => 0b110#3

/-- `REQ = {OP, DATA}` (R57). -/
def reqWord (op : BusOp) (data : Byte) : ReqWord := op.code ++ data

/-- The OP field of a request word (R57). -/
def reqOp (req : ReqWord) : BitVec 3 := req.extractLsb' 8 3

/-- The DATA field of a request word (R57). -/
def reqData (req : ReqWord) : Byte := req.extractLsb' 0 8

/-- Format BL_REQ (R57, R58). DATA of a non-WRITE request is ignored (R59, R66; log entry 8). -/
def decodeReq (req : ReqWord) (rsp : RspWord) : Decoded :=
  if reqOp req = 0b000#3 then .ok (.start rsp)
  else if reqOp req = 0b001#3 then .ok (.restart rsp)
  else if reqOp req = 0b010#3 then .ok (.write (reqData req) rsp)
  else if reqOp req = 0b011#3 then .ok (.readAck rsp)
  else if reqOp req = 0b100#3 then .ok (.readNack rsp)
  else if reqOp req = 0b101#3 then .ok (.stop rsp)
  else if reqOp req = 0b110#3 then .ok (.status rsp)
  else .bad .reservedOp

/-- A descriptor is admitted when OFF is one of 0x00, 0x04, ..., 0x1C (R63). -/
def admittedOff (desc : BitVec 9) : Bool :=
  (desc.extractLsb' 0 2 == 0#2) && (desc.extractLsb' 5 3 == 0#3)

/-- The register that OFF selects: OFF = 4 * register (R34, R63). -/
def accReg (desc : BitVec 9) : BitVec 3 := desc.extractLsb' 2 3

/-- The reads of the host operation map, by register (R64). -/
def decodeRead (reg : BitVec 3) : Instr :=
  if reg = 0#3 then .rdCtrl
  else if reg = 1#3 then .rdStatus
  else if reg = 2#3 then .rdRawP
  else if reg = 3#3 then .rdRawS
  else if reg = 4#3 then .rdErr
  else if reg = 5#3 then .rdCrcIn
  else if reg = 6#3 then .rdCrcOut
  else .rdRsv

/-- The writes of the host operation map, by register (R64). -/
def decodeWrite (reg : BitVec 3) (data : Word) : Instr :=
  if reg = 0#3 then .wrCtrl data
  else if reg = 1#3 then .wrRoStatus data
  else if reg = 2#3 then .wrRoRawP data
  else if reg = 3#3 then .wrRoRawS data
  else if reg = 4#3 then .wrRoErr data
  else if reg = 5#3 then .wrCrcIn data
  else if reg = 6#3 then .wrRoCrcOut data
  else .wrRsv data

/-- Format HOST_ACC: RW in bit 8, OFF in bits 7:0 (R63, R64). -/
def decodeAcc (desc : BitVec 9) (data : Word) : Decoded :=
  if admittedOff desc then
    .ok (if desc.getLsbD 8 then decodeWrite (accReg desc) data else decodeRead (accReg desc))
  else .bad .notAdmitted

/-- Format STEP_ROM: the row that ST selects (R62, R21). -/
def decodeRom (st : BitVec 4) (rsp : RspWord) : Decoded :=
  if st = 0#4 then .bad .idleState
  else if st = 1#4 then .ok (.seqStep1 rsp)
  else if st = 2#4 then .ok (.seqStep2 rsp)
  else if st = 3#4 then .ok (.seqStep3 rsp)
  else if st = 4#4 then .ok (.seqStep4 rsp)
  else if st = 5#4 then .ok (.seqStep5 rsp)
  else if st = 6#4 then .ok (.seqStep6 rsp)
  else if st = 7#4 then .ok (.seqStep7 rsp)
  else if st = 8#4 then .ok (.seqStep8 rsp)
  else if st = 9#4 then .ok (.seqStep9 rsp)
  else if st = 10#4 then .ok (.seqStep10 rsp)
  else if st = 11#4 then .ok (.seqStep11 rsp)
  else if st = 12#4 then .ok (.seqStep12 rsp)
  else if st = 13#4 then .ok (.seqClose rsp)
  else .bad .unreachableState

/-- Format CRC_IN: `{0x00, h, l, c}` (R34, R70). -/
def decodeQuery (word : Word) : Decoded :=
  if word.extractLsb' 24 8 = 0#8 then
    .ok (.validate (word.extractLsb' 16 8) (word.extractLsb' 8 8) (word.extractLsb' 0 8))
  else .bad .queryTopByte

/-- The operation of an encoded word, total on every word of every format. -/
def decode : Code → Decoded
  | .blReq req rsp => decodeReq req rsp
  | .hostAcc desc data => decodeAcc desc data
  | .stepRom st rsp => decodeRom st rsp
  | .crcIn word => decodeQuery word

/-- The words of an instruction, from the tables of R58, R64, R62 and R34. -/
def encode : Instr → Code
  | .start rsp => .blReq 0x000#11 rsp
  | .restart rsp => .blReq 0x100#11 rsp
  | .write data rsp => .blReq (0b010#3 ++ data) rsp
  | .readAck rsp => .blReq 0x300#11 rsp
  | .readNack rsp => .blReq 0x400#11 rsp
  | .stop rsp => .blReq 0x500#11 rsp
  | .status rsp => .blReq 0x600#11 rsp
  | .rdCtrl => .hostAcc 0x000#9 0#32
  | .wrCtrl data => .hostAcc 0x100#9 data
  | .rdStatus => .hostAcc 0x004#9 0#32
  | .rdRawP => .hostAcc 0x008#9 0#32
  | .rdRawS => .hostAcc 0x00C#9 0#32
  | .rdErr => .hostAcc 0x010#9 0#32
  | .rdCrcIn => .hostAcc 0x014#9 0#32
  | .wrCrcIn data => .hostAcc 0x114#9 data
  | .rdCrcOut => .hostAcc 0x018#9 0#32
  | .wrRoStatus data => .hostAcc 0x104#9 data
  | .wrRoRawP data => .hostAcc 0x108#9 data
  | .wrRoRawS data => .hostAcc 0x10C#9 data
  | .wrRoErr data => .hostAcc 0x110#9 data
  | .wrRoCrcOut data => .hostAcc 0x118#9 data
  | .rdRsv => .hostAcc 0x01C#9 0#32
  | .wrRsv data => .hostAcc 0x11C#9 data
  | .seqStep1 rsp => .stepRom 1#4 rsp
  | .seqStep2 rsp => .stepRom 2#4 rsp
  | .seqStep3 rsp => .stepRom 3#4 rsp
  | .seqStep4 rsp => .stepRom 4#4 rsp
  | .seqStep5 rsp => .stepRom 5#4 rsp
  | .seqStep6 rsp => .stepRom 6#4 rsp
  | .seqStep7 rsp => .stepRom 7#4 rsp
  | .seqStep8 rsp => .stepRom 8#4 rsp
  | .seqStep9 rsp => .stepRom 9#4 rsp
  | .seqStep10 rsp => .stepRom 10#4 rsp
  | .seqStep11 rsp => .stepRom 11#4 rsp
  | .seqStep12 rsp => .stepRom 12#4 rsp
  | .seqClose rsp => .stepRom 13#4 rsp
  | .validate h l c => .crcIn (0#8 ++ h ++ l ++ c)

/-- The encoded word that `nbits` bits of a table row stand for, operand words zero. The table's rows have 4, 9, 11 and
32 bits, 8, 16, 16 and 32 in whole bytes. In 16 bits, 0x000 and 0x100 are each the word of two rows (of a bus-link request
and of a host access); the host access is read. Log entry 12. -/
def tableCode (nbits w : Nat) : Option Code :=
  if nbits = 4 ∨ nbits = 8 then
    if w < 0x10 then some (.stepRom (BitVec.ofNat 4 w) 0#16) else none
  else if nbits = 9 then
    if w < 0x200 then some (.hostAcc (BitVec.ofNat 9 w) 0#32) else none
  else if nbits = 11 then
    if w < 0x800 then some (.blReq (BitVec.ofNat 11 w) 0#16) else none
  else if nbits = 16 then
    if w < 0x200 then some (.hostAcc (BitVec.ofNat 9 w) 0#32)
    else if w < 0x800 then some (.blReq (BitVec.ofNat 11 w) 0#16) else none
  else if nbits = 32 then
    if w < 0x100000000 then some (.crcIn (BitVec.ofNat 32 w)) else none
  else none

/-- The instruction the decoder reads from a word numbered as spec/opcode_table.json numbers it. -/
def decodeTableWord (nbits w : Nat) : Option Instr :=
  match tableCode nbits w with
  | none => none
  | some c =>
    match decode c with
    | .ok i => some i
    | .bad _ => none

end Sys2Proof
end

