-- ==== Sys2Proof/Machine/State.lean ====
section
/-! DEFINITION. The state of TWSEQ (10_state.md R19-R41), the events that move it, and the reasons a step can stop. -/

namespace Sys2Proof.Machine

/-- The four agents of R19. -/
inductive Agent where
  | host
  | seq
  | bus
  | reset
deriving DecidableEq, Repr

/-- One access of the HOST: `MemWrite(WINDOW_BASE + off, width, data)` or `MemRead(WINDOW_BASE + off, width)` (R18).
`off` is the accessed address minus WINDOW_BASE, `width` is in bytes; an access of another width or place exists only to be
refused (R46). Log entry 15. -/
structure HostAccess where
  isWrite : Bool
  off : Int
  width : Nat
  data : Word
deriving DecidableEq, Repr

/-- The events of R20: one read or one write of the HOST, a BUS response with SEQ's reaction, or a RESET. -/
inductive Event where
  /-- The HOST makes one access (43_host_interface.md). -/
  | host (access : HostAccess)
  /-- The BUS agent answers the outstanding request with this BL_RSP word (R72). -/
  | bus (rsp : RspWord)
  /-- The environment resets TWSEQ (R149). -/
  | reset
deriving DecidableEq, Repr

/-- The byte buffer B[7..12] (R23). -/
structure Buffer where
  b7 : Byte
  b8 : Byte
  b9 : Byte
  b10 : Byte
  b11 : Byte
  b12 : Byte
deriving DecidableEq, Repr

/-- The ErrorState slot ERR (R29). -/
structure ErrReg where
  kind : BitVec 3
  step : BitVec 4
  status : Byte
deriving DecidableEq, Repr

/-- CRC_IN, the inputs of the stand-alone validator (R32). -/
structure CrcIn where
  high : Byte
  low : Byte
  chk : Byte
deriving DecidableEq, Repr

/-- One entry of TRACE (R40): a request word and, once it is answered, the response word. -/
structure Exchange where
  req : ReqWord
  rsp : Option RspWord
deriving DecidableEq, Repr

/-- The state of TWSEQ: every element of R41's table, the configuration, and the model's own fields. -/
structure State where
  /-- ST (R21). -/
  st : BitVec 4
  /-- B[7..12] (R23). -/
  buf : Buffer
  /-- P_OK (R24). -/
  pOk : Bool
  /-- P_STEP (R24). -/
  pStep : BitVec 4
  /-- P_STATUS (R24). -/
  pStatus : Byte
  /-- REQ_V (R25). -/
  reqV : Bool
  /-- REQ (R25). -/
  req : ReqWord
  /-- OUTCOME (R26). -/
  outcome : BitVec 2
  /-- CRC_BAD (R27). -/
  crcBad : BitVec 2
  /-- RAW_P (R28). -/
  rawP : Raw
  /-- RAW_S (R28). -/
  rawS : Raw
  /-- ERR (R29). -/
  err : ErrReg
  /-- CRC_IN (R32). -/
  crcIn : CrcIn
  /-- TRACE (R40). -/
  trace : List Exchange
  /-- The parameters of R6-R13, constant in every run (R40). Log entry 1. -/
  cfg : Params
  /-- The model's own: the events to come, in the total order of R20. Log entry 2. -/
  events : List Event
  /-- The model's own: the word the HOST's latest read returned. Log entry 3. -/
  hostData : Option Word
  /-- The model's own: how many free values have been drawn. Log entry 5. -/
  draws : Nat
deriving DecidableEq, Repr

/-- Why the machine stops. -/
inductive Fault where
  /-- `step` raises it when no event is left: no agent has an enabled event, the "stuck" of U3 (R148, R155). Safe. -/
  | noEvent
  /-- `step` raises it when it finds ST = 14 or 15 (R21, U6). Safe: no rule enters these states. -/
  | unreachableState
  /-- `step` raises it when it finds ERR.KIND = 6, 7 or ERR.STEP = 14, 15 (R30, R31, U10). Safe: no rule writes them. -/
  | unwrittenErr
  /-- `step` raises it when the BUS agent receives a request with OP = 0b111 (R66, U7). Safe: SEQ never issues it. -/
  | reservedRequest
  /-- `step` raises it when the BUS agent receives a request other than WRITE with DATA not 0 (R66, U9). Safe: SEQ never
  issues it. Log entry 8. -/
  | dataWithoutWrite
  /-- The host's side (Contract.lean, `readAsReading`) raises it when the host uses RAW as a reading while OUTCOME is not OK
  (R133, U18): a host fault. No step of TWSEQ raises it. Safe. -/
  | staleRaw
  /-- The meaning of SEQ_CLOSE raises it when P_OK = 0 and P_STEP is outside 1..12, where finish_bus_fail has no meaning
  (R109). Safe: no rule enters CLOSE so. Log entry 14. -/
  | badPendingStep
deriving DecidableEq, Repr

/-- Why an event or an instruction has no meaning. -/
inductive Refusal where
  /-- An instruction that has no meaning yet. No arm raises it. -/
  | notModelled (mnemonic : String)
  /-- `step` raises it for a host access that is not 32 bits wide (R46, U11). Safe. -/
  | accessWidth
  /-- `step` raises it for a host access outside the 32-byte window (R43, U12). Safe. -/
  | outsideWindow
  /-- `step` raises it for a host access at an offset that is no multiple of 4 (R46, U11). Safe. -/
  | misaligned
  /-- `step` and the bus-link meanings raise it when the BUS agent would answer with no request outstanding:
  it "has no step" (R72, U16). Safe: the spec excludes the event. -/
  | noRequest
  /-- The bus-link meanings raise it when another request is outstanding than the one they answer (R72). Safe. -/
  | otherRequest
  /-- The step-ROM meanings raise it when ST does not select their row (R62, R92). Safe. -/
  | rowNotSelected
deriving DecidableEq, Repr

/-- The bytes B holds after a reset, six free values (R41, U5). Log entry 5. -/
def freeBuffer (n : Nat) : Buffer where
  b7 := Config.freeByte n
  b8 := Config.freeByte (n + 1)
  b9 := Config.freeByte (n + 2)
  b10 := Config.freeByte (n + 3)
  b11 := Config.freeByte (n + 4)
  b12 := Config.freeByte (n + 5)

/-- TWSEQ right after reset (R41, R151), with no event placed. -/
def State.reset : State where
  st := 0#4
  buf := freeBuffer 0
  pOk := false
  pStep := 0#4
  pStatus := 0x00#8
  reqV := false
  req := 0x000#11
  outcome := 0#2
  crcBad := 0b00#2
  rawP := 0x0000#16
  rawS := 0x0000#16
  err := { kind := 0#3, step := 0#4, status := 0x00#8 }
  crcIn := { high := 0x00#8, low := 0x00#8, chk := 0x00#8 }
  trace := []
  cfg := Config.platform
  events := []
  hostData := none
  draws := 6

end Sys2Proof.Machine
end

