-- ==== Sys2Proof/Machine/Operands.lean ====
section
/-! DEFINITION. The operand forms: the fixed constants, the step ROM, the fields of a response and of host data, and the
checksum functions (00_scope.md R14; 30_encoding.md R60-R65; 41_checksum.md R81-R83; 42_sequencer.md R106, R108). -/

namespace Sys2Proof.Machine

/-- `DEV_ADDR` (R14), a 7-bit address (R45). -/
def devAddr : BitVec 7 := 0x44#7
/-- `CMD_HI` (R14). -/
def cmdHi : Byte := 0x2C#8
/-- `CMD_LO` (R14). -/
def cmdLo : Byte := 0x06#8
/-- `POLY` (R14). -/
def poly : Byte := 0x31#8
/-- `SEED` (R14). -/
def seed : Byte := 0xFF#8
/-- `SLA_W`: the address in bits 7:1 and the WRITE bit 0 (R61). -/
def slaW : Byte := devAddr ++ 0#1
/-- `SLA_R`: the address in bits 7:1 and the READ bit 1 (R61). -/
def slaR : Byte := devAddr ++ 1#1

/-- OUTCOME codes (R26). -/
def outNone : BitVec 2 := 0#2
def outOk : BitVec 2 := 1#2
def outBusFail : BitVec 2 := 2#2
def outCrcFail : BitVec 2 := 3#2

/-- ERR.KIND of a checksum failure, and its ERR.STEP tag (R30, R31). -/
def kindChecksum : BitVec 3 := 5#3
def stepChecksum : BitVec 4 := 13#4

/-- ST in CLOSE and in IDLE (R21). -/
def stIdle : BitVec 4 := 0#4
def stClose : BitVec 4 := 13#4

/-- The STATUS field of a response word (R60). -/
def rspStatus (rsp : RspWord) : Byte := rsp.extractLsb' 0 8
/-- The RDATA field of a response word (R60). -/
def rspRdata (rsp : RspWord) : Byte := rsp.extractLsb' 8 8

/-- The step's number k, which is also its ST code (R21, R31). -/
def stepNum : TransactionStep → BitVec 4
  | .s1 => 1#4 | .s2 => 2#4 | .s3 => 3#4 | .s4 => 4#4 | .s5 => 5#4 | .s6 => 6#4
  | .s7 => 7#4 | .s8 => 8#4 | .s9 => 9#4 | .s10 => 10#4 | .s11 => 11#4 | .s12 => 12#4

/-- The step with the number `n`, for 1 <= n <= 12. -/
def stepOfNum (n : BitVec 4) : Option TransactionStep :=
  if n = 1#4 then some .s1
  else if n = 2#4 then some .s2
  else if n = 3#4 then some .s3
  else if n = 4#4 then some .s4
  else if n = 5#4 then some .s5
  else if n = 6#4 then some .s6
  else if n = 7#4 then some .s7
  else if n = 8#4 then some .s8
  else if n = 9#4 then some .s9
  else if n = 10#4 then some .s10
  else if n = 11#4 then some .s11
  else if n = 12#4 then some .s12
  else none

/-- Step k + 1, for k < 12 (R92). -/
def stepNext : TransactionStep → Option TransactionStep
  | .s1 => some .s2 | .s2 => some .s3 | .s3 => some .s4 | .s4 => some .s5 | .s5 => some .s6 | .s6 => some .s7
  | .s7 => some .s8 | .s8 => some .s9 | .s9 => some .s10 | .s10 => some .s11 | .s11 => some .s12
  | .s12 => none

/-- The step-ROM row of step k, on a response (R94-R105). -/
def rowInstr (k : TransactionStep) (rsp : RspWord) : Instr :=
  match k with
  | .s1 => .seqStep1 rsp
  | .s2 => .seqStep2 rsp
  | .s3 => .seqStep3 rsp
  | .s4 => .seqStep4 rsp
  | .s5 => .seqStep5 rsp
  | .s6 => .seqStep6 rsp
  | .s7 => .seqStep7 rsp
  | .s8 => .seqStep8 rsp
  | .s9 => .seqStep9 rsp
  | .s10 => .seqStep10 rsp
  | .s11 => .seqStep11 rsp
  | .s12 => .seqStep12 rsp

/-- The twelve steps in order (R62). -/
def allSteps : List TransactionStep := [.s1, .s2, .s3, .s4, .s5, .s6, .s7, .s8, .s9, .s10, .s11, .s12]

/-- The column OP of the step ROM (R62). -/
def romOp : TransactionStep → BusOp
  | .s1 => .start
  | .s2 => .write
  | .s3 => .write
  | .s4 => .write
  | .s5 => .restart
  | .s6 => .write
  | .s7 => .readAck
  | .s8 => .readAck
  | .s9 => .readAck
  | .s10 => .readAck
  | .s11 => .readAck
  | .s12 => .readNack

/-- The column DATA of the step ROM (R62). -/
def romData : TransactionStep → Byte
  | .s2 => slaW
  | .s3 => cmdHi
  | .s4 => cmdLo
  | .s6 => slaR
  | .s1 | .s5 | .s7 | .s8 | .s9 | .s10 | .s11 | .s12 => 0x00#8

/-- The column "request word" of the step ROM (R62). -/
def romReq (k : TransactionStep) : ReqWord := reqWord (romOp k) (romData k)

/-- The column EXP(k) of the step ROM (R62, R7-R12). -/
def expected (p : Params) : TransactionStep → Byte
  | .s1 => p.expStart
  | .s2 => p.expSlaWAck
  | .s3 => p.expDataWAck
  | .s4 => p.expDataWAck
  | .s5 => p.expStart
  | .s6 => p.expSlaRAck
  | .s7 => p.expDataRAck
  | .s8 => p.expDataRAck
  | .s9 => p.expDataRAck
  | .s10 => p.expDataRAck
  | .s11 => p.expDataRAck
  | .s12 => p.expDataRNack

/-- The column STORE(k): the element of B that a matching read step writes; the other steps write none (R62, R93). -/
def storeByte (k : TransactionStep) (v : Byte) (b : Buffer) : Buffer :=
  match k with
  | .s7 => { b with b7 := v }
  | .s8 => { b with b8 := v }
  | .s9 => { b with b9 := v }
  | .s10 => { b with b10 := v }
  | .s11 => { b with b11 := v }
  | .s12 => { b with b12 := v }
  | .s1 | .s2 | .s3 | .s4 | .s5 | .s6 => b

/-- `stop_after_fail(k)` (R106). -/
def stopAfterFail (policy : StopPolicy) (k : TransactionStep) : Bool :=
  match policy with
  | .always => true
  | .source =>
    match k with
    | .s2 | .s3 | .s4 | .s6 => true
    | .s1 | .s5 | .s7 | .s8 | .s9 | .s10 | .s11 | .s12 => false

/-- `kind_of(k)` (R108). -/
def kindOf : TransactionStep → BitVec 3
  | .s1 | .s5 => 1#3
  | .s2 | .s6 => 2#3
  | .s3 | .s4 => 3#3
  | .s7 | .s8 | .s9 | .s10 | .s11 | .s12 => 4#3

/-- One round of the shift-xor loop (R81). -/
def shift1 (r : Byte) : Byte :=
  if r.getLsbD 7 then (r <<< 1) ^^^ poly else r <<< 1

/-- `n` rounds of the shift-xor loop (R81). -/
def shiftRounds : Nat → Byte → Byte
  | 0, r => r
  | n + 1, r => shiftRounds n (shift1 r)

/-- `shift8(r)` (R81). -/
def shift8 (r : Byte) : Byte := shiftRounds 8 r

/-- `crc8(h, l)` (R82). -/
def crc8 (h l : Byte) : Byte := shift8 (shift8 (seed ^^^ h) ^^^ l)

/-- `validate(h, l, c)` (R83). -/
def validate (h l c : Byte) : Bool := crc8 h l == c

/-- `{high, low}`, the big-endian assembly of a raw value (R48, R111). -/
def assemble (high low : Byte) : Raw := high ++ low

/-- GO, bit 0 of the data written to CTRL (R65, R120). -/
def goBit (data : Word) : Bool := data.getLsbD 0

/-- The fields of the data written to CRC_IN; bits 31:24 are ignored (R65, R127). -/
def splitCrcIn (data : Word) : CrcIn where
  high := data.extractLsb' 16 8
  low := data.extractLsb' 8 8
  chk := data.extractLsb' 0 8

end Sys2Proof.Machine
end

