-- ==== Sys2Proof/Machine/Flags.lean ====
section
/-! DEFINITION. The status flags and the words of the register map (10_state.md R22, R33, R34, R37). -/

namespace Sys2Proof.Machine

/-- `BUSY` (R22). -/
def busy (s : State) : Bool := s.st != 0#4

/-- A flag as one bit. -/
def bitOf (b : Bool) : BitVec 1 := BitVec.ofBool b

/-- The STATUS word `zext_32({ST, 0b00, CRC_BAD, 0b0, OUTCOME, BUSY})` (R34). -/
def statusWord (s : State) : Word :=
  (s.st ++ 0b00#2 ++ s.crcBad ++ 0b0#1 ++ s.outcome ++ bitOf (busy s)).setWidth 32

/-- The ERR word `zext_32({KIND, STEP, STATUS})` (R34). -/
def errWord (e : ErrReg) : Word := (e.kind ++ e.step ++ e.status).setWidth 32

/-- The CRC_IN word `zext_32({HIGH, LOW, CHK})` (R34). -/
def crcInWord (c : CrcIn) : Word := (c.high ++ c.low ++ c.chk).setWidth 32

/-- `CRC_OUT.REM` (R33). -/
def crcRem (c : CrcIn) : Byte := crc8 c.high c.low

/-- `CRC_OUT.MATCH` (R33). -/
def crcMatch (c : CrcIn) : Bool := validate c.high c.low c.chk

/-- The CRC_OUT word `zext_32({MATCH, REM})` (R34). -/
def crcOutWord (c : CrcIn) : Word := (bitOf (crcMatch c) ++ crcRem c).setWidth 32

end Sys2Proof.Machine
end

