-- ==== Sys2Proof/Machine/Ops.lean ====
section
/-! DEFINITION. The named operations over the state: the request port, the start and the end of a transaction, the failure
exit, host accesses and reset (40_buslink.md R71, R72; 42_sequencer.md R90-R112; 70_reset_and_hazards.md R149). -/

namespace Sys2Proof.Machine

/-- `Issue(op, data)` (R71). -/
def State.issue (s : State) (op : BusOp) (data : Byte) : State :=
  { s with req := reqWord op data, reqV := true, trace := s.trace ++ [{ req := reqWord op data, rsp := none }] }

/-- `TRACE.last.response <- rsp` (R72). -/
def answerLast : List Exchange → RspWord → List Exchange
  | [], _ => []
  | [e], rsp => [{ e with rsp := some rsp }]
  | e :: e' :: rest, rsp => e :: answerLast (e' :: rest) rsp

/-- The BUS agent's half of `Response(status, rdata)`: the request is answered (R72). -/
def State.answer (s : State) (rsp : RspWord) : State :=
  { s with reqV := false, trace := answerLast s.trace rsp }

/-- `ST <- v` (R18). -/
def State.setSt (s : State) (v : BitVec 4) : State := { s with st := v }

/-- `B[k] <- v` for a step that stores (R93). -/
def State.capture (s : State) (k : TransactionStep) (v : Byte) : State := { s with buf := storeByte k v s.buf }

/-- `P_OK <- ok; P_STEP <- k; P_STATUS <- status` (R24). -/
def State.latch (s : State) (ok : Bool) (k : TransactionStep) (status : Byte) : State :=
  { s with pOk := ok, pStep := stepNum k, pStatus := status }

/-- Enter CLOSE and issue the closing stop (R92, R107). -/
def State.toClose (s : State) : State := (s.setSt stClose).issue .stop 0x00#8

/-- GO accepted (R90). -/
def State.go (s : State) : State :=
  (({ s with outcome := outNone, crcBad := 0b00#2 } : State).setSt 1#4).issue .start 0x00#8

/-- `finish_bus_fail(k, s)`, with the `ST <- 0` of its event (R109, R107, R110). -/
def State.finishBusFail (s : State) (k : TransactionStep) (status : Byte) : State :=
  { s with
    outcome := outBusFail
    crcBad := 0b00#2
    err := { kind := kindOf k, step := stepNum k, status := status }
    st := stIdle }

/-- `finish_ok(p, q)`, with the `ST <- 0` of its event (R109, R110). -/
def State.finishOk (s : State) (p q : Raw) : State :=
  { s with outcome := outOk, crcBad := 0b00#2, rawP := p, rawS := q, st := stIdle }

/-- `finish_crc(bad, s)`, with the `ST <- 0` of its event (R109, R110). -/
def State.finishCrc (s : State) (bad : BitVec 2) (status : Byte) : State :=
  { s with
    outcome := outCrcFail
    crcBad := bad
    err := { kind := kindChecksum, step := stepChecksum, status := status }
    st := stIdle }

/-- The failure exit `fail(k, s)` (R107, R139): the shared entry of every bus failure. -/
def State.failAt (s : State) (k : TransactionStep) (status : Byte) : State :=
  if stopAfterFail s.cfg.stopPolicy k then (s.latch false k status).toClose
  else s.finishBusFail k status

/-- The matching branch of the response template (R92, R93). -/
def State.advance (s : State) (k : TransactionStep) (rsp : RspWord) : State :=
  match stepNext k with
  | some k' => ((s.capture k (rspRdata rsp)).setSt (stepNum k')).issue (romOp k') (romData k')
  | none => ((s.capture k (rspRdata rsp)).latch true k (rspStatus rsp)).toClose

/-- The response template in STEP(k): exact 8-bit comparison with EXP(k) (R92). -/
def State.respondAt (s : State) (k : TransactionStep) (rsp : RspWord) : State :=
  if rspStatus rsp = expected s.cfg k then s.advance k rsp
  else s.failAt k (rspStatus rsp)

/-- The step-ROM row of step k, taken when ST selects it (R92). -/
def seqRow (k : TransactionStep) (rsp : RspWord) (s : State) : Host.Outcome State Fault Refusal :=
  if s.st = stepNum k then .next (s.respondAt k rsp) else .refused .rowNotSelected

/-- `validate` of the primary triple (R88). -/
def primaryOk (b : Buffer) : Bool := validate b.b7 b.b8 b.b9

/-- `validate` of the secondary triple (R88). -/
def secondaryOk (b : Buffer) : Bool := validate b.b10 b.b11 b.b12

/-- CLOSE completion with P_OK = 1: both triples validated, then finish_ok or finish_crc (R110, R111, R112). -/
def State.closeValidated (s : State) : State :=
  if primaryOk s.buf && secondaryOk s.buf then
    s.finishOk (assemble s.buf.b7 s.buf.b8) (assemble s.buf.b10 s.buf.b11)
  else
    s.finishCrc (bitOf (!secondaryOk s.buf) ++ bitOf (!primaryOk s.buf)) s.pStatus

/-- CLOSE completion with P_OK = 0 (R110). -/
def State.closeFailed (s : State) : Host.Outcome State Fault Refusal :=
  match stepOfNum s.pStep with
  | some k => .next (s.finishBusFail k s.pStatus)
  | none => .fault .badPendingStep

/-- The BUS agent answers the outstanding request, if it is the one named (R72). -/
def answerReq (named : Bool) (rsp : RspWord) (s : State) : Host.Outcome State Fault Refusal :=
  if s.reqV then
    if named then .next (s.answer rsp) else .refused .otherRequest
  else .refused .noRequest

/-- The outstanding request word asks for `op`; DATA is ignored (R59, R66). -/
def asksFor (s : State) (op : BusOp) : Bool := reqOp s.req == op.code

/-- The word a host read returns reaches the HOST; nothing else changes (R51). -/
def State.deliver (s : State) (w : Word) : State := { s with hostData := some w }

/-- A write of CRC_IN (R127). -/
def State.setCrcIn (s : State) (c : CrcIn) : State := { s with crcIn := c }

/-- The HOST_ACC descriptor of an access in the window (R63). -/
def HostAccess.descriptor (a : HostAccess) : BitVec 9 :=
  bitOf a.isWrite ++ BitVec.ofNat 8 a.off.toNat

/-- Why TWSEQ gives an access no meaning, if it does not (R43, R46). -/
def HostAccess.refusal (a : HostAccess) : Option Refusal :=
  if a.off < 0 ∨ 32 ≤ a.off then some .outsideWindow
  else if a.width ≠ 4 then some .accessWidth
  else if a.off % 4 ≠ 0 then some .misaligned
  else none

/-- The RESET event (R149): every state element of R41 at its reset value, B drawn afresh, TRACE empty; no stop is issued.
The parameters, the events to come and what the HOST has read are not TWSEQ's to reset (log entry 16). -/
def State.resetEvent (s : State) : State :=
  { State.reset with
    buf := freeBuffer s.draws
    cfg := s.cfg
    events := s.events
    hostData := s.hostData
    draws := s.draws + 6 }

end Sys2Proof.Machine
end

