-- ==== Sys2Proof/Machine/BusLink.lean ====
section
/-! DEFINITION. The bus-link operations (40_buslink.md R74-R80): the BUS agent answers the outstanding request, which clears
REQ_V and records the response in TRACE. SEQ's reaction in the same event is the step-ROM row's (log entry 7). Every value
of the answer is admitted (R73). -/

namespace Sys2Proof.Machine

/-- START (R74). -/
def execStart (rsp : RspWord) (s : State) : Host.Outcome State Fault Refusal :=
  answerReq (asksFor s .start) rsp s

/-- RESTART (R75). -/
def execRestart (rsp : RspWord) (s : State) : Host.Outcome State Fault Refusal :=
  answerReq (asksFor s .restart) rsp s

/-- WRITE of one byte (R76). -/
def execWrite (data : Byte) (rsp : RspWord) (s : State) : Host.Outcome State Fault Refusal :=
  answerReq (asksFor s .write && reqData s.req == data) rsp s

/-- READ_ACK (R77). -/
def execReadAck (rsp : RspWord) (s : State) : Host.Outcome State Fault Refusal :=
  answerReq (asksFor s .readAck) rsp s

/-- READ_NACK (R78). -/
def execReadNack (rsp : RspWord) (s : State) : Host.Outcome State Fault Refusal :=
  answerReq (asksFor s .readNack) rsp s

/-- STOP (R79). -/
def execStop (rsp : RspWord) (s : State) : Host.Outcome State Fault Refusal :=
  answerReq (asksFor s .stop) rsp s

/-- STATUS (R80), never issued by SEQ; a BUS agent that receives it answers with any status (U8; log entry 18). -/
def execStatus (rsp : RspWord) (s : State) : Host.Outcome State Fault Refusal :=
  answerReq (asksFor s .status) rsp s

end Sys2Proof.Machine
end

