-- ==== Sys2Proof/Machine/HostInterface.lean ====
section
/-! DEFINITION. The host operations (43_host_interface.md R120-R130). Every one is allowed in every state (R143). -/

namespace Sys2Proof.Machine

/-- RD_CTRL (R121): GO is a command, so CTRL reads 0. -/
def execRdCtrl (s : State) : Host.Outcome State Fault Refusal := .next (s.deliver 0x00000000#32)

/-- WR_CTRL (R120): GO accepted in IDLE (R90), ignored otherwise (R91). -/
def execWrCtrl (data : Word) (s : State) : Host.Outcome State Fault Refusal :=
  .next (if goBit data ∧ s.st = 0#4 then s.go else s)

/-- RD_STATUS (R122). -/
def execRdStatus (s : State) : Host.Outcome State Fault Refusal := .next (s.deliver (statusWord s))

/-- RD_RAW_P (R123). -/
def execRdRawP (s : State) : Host.Outcome State Fault Refusal := .next (s.deliver (s.rawP.setWidth 32))

/-- RD_RAW_S (R124). -/
def execRdRawS (s : State) : Host.Outcome State Fault Refusal := .next (s.deliver (s.rawS.setWidth 32))

/-- RD_ERR (R125). -/
def execRdErr (s : State) : Host.Outcome State Fault Refusal := .next (s.deliver (errWord s.err))

/-- RD_CRC_IN (R126). -/
def execRdCrcIn (s : State) : Host.Outcome State Fault Refusal := .next (s.deliver (crcInWord s.crcIn))

/-- WR_CRC_IN (R127). -/
def execWrCrcIn (data : Word) (s : State) : Host.Outcome State Fault Refusal := .next (s.setCrcIn (splitCrcIn data))

/-- RD_CRC_OUT (R128). -/
def execRdCrcOut (s : State) : Host.Outcome State Fault Refusal := .next (s.deliver (crcOutWord s.crcIn))

/-- A write that changes no state, whatever its data (R50). -/
def ignoredWrite (_data : Word) (s : State) : Host.Outcome State Fault Refusal := .next s

/-- WR_RO to STATUS (R129). -/
def execWrRoStatus (data : Word) (s : State) : Host.Outcome State Fault Refusal := ignoredWrite data s

/-- WR_RO to RAW_P (R129). -/
def execWrRoRawP (data : Word) (s : State) : Host.Outcome State Fault Refusal := ignoredWrite data s

/-- WR_RO to RAW_S (R129). -/
def execWrRoRawS (data : Word) (s : State) : Host.Outcome State Fault Refusal := ignoredWrite data s

/-- WR_RO to ERR (R129). -/
def execWrRoErr (data : Word) (s : State) : Host.Outcome State Fault Refusal := ignoredWrite data s

/-- WR_RO to CRC_OUT (R129). -/
def execWrRoCrcOut (data : Word) (s : State) : Host.Outcome State Fault Refusal := ignoredWrite data s

/-- RD_RSV (R130). -/
def execRdRsv (s : State) : Host.Outcome State Fault Refusal := .next (s.deliver 0x00000000#32)

/-- WR_RSV (R130). -/
def execWrRsv (data : Word) (s : State) : Host.Outcome State Fault Refusal := ignoredWrite data s

end Sys2Proof.Machine
end

