-- ==== Sys2Proof/Machine/Checksum.lean ====
section
/-! DEFINITION. VALIDATE at the stand-alone validator port (41_checksum.md R83, R89; 30_encoding.md R70). -/

namespace Sys2Proof.Machine

/-- VALIDATE h, l, c: `W CRC_IN, {0x00, h, l, c}` then `R CRC_OUT` (R70). The word read is `{validate(h, l, c), crc8(h, l)}`
(R89). Each of the two accesses is an event of its own (R19, R20); here no event stands between them. Log entry 11. -/
def execValidate (h l c : Byte) (s : State) : Host.Outcome State Fault Refusal :=
  match execWrCrcIn (0#8 ++ h ++ l ++ c) s with
  | .next t => execRdCrcOut t
  | .fault r => .fault r
  | .refused r => .refused r

end Sys2Proof.Machine
end

