-- ==== Sys2Proof/Machine/Sequencer.lean ====
section
/-! DEFINITION. The step-ROM rows: SEQ's reaction to a response in each state (42_sequencer.md R94-R105, R110). The BUS
agent's half of the same event has already cleared REQ_V (log entry 7). -/

namespace Sys2Proof.Machine

/-- Step 1, start condition (R94). -/
def execSeqStep1 (rsp : RspWord) (s : State) : Host.Outcome State Fault Refusal := seqRow .s1 rsp s

/-- Step 2, write address+WRITE bit (R95). -/
def execSeqStep2 (rsp : RspWord) (s : State) : Host.Outcome State Fault Refusal := seqRow .s2 rsp s

/-- Step 3, write command byte (high) (R96). -/
def execSeqStep3 (rsp : RspWord) (s : State) : Host.Outcome State Fault Refusal := seqRow .s3 rsp s

/-- Step 4, write command byte (low) (R97). -/
def execSeqStep4 (rsp : RspWord) (s : State) : Host.Outcome State Fault Refusal := seqRow .s4 rsp s

/-- Step 5, restart condition (R98). -/
def execSeqStep5 (rsp : RspWord) (s : State) : Host.Outcome State Fault Refusal := seqRow .s5 rsp s

/-- Step 6, write address+READ bit (R99). -/
def execSeqStep6 (rsp : RspWord) (s : State) : Host.Outcome State Fault Refusal := seqRow .s6 rsp s

/-- Step 7, read primary high (R100). -/
def execSeqStep7 (rsp : RspWord) (s : State) : Host.Outcome State Fault Refusal := seqRow .s7 rsp s

/-- Step 8, read primary low (R101). -/
def execSeqStep8 (rsp : RspWord) (s : State) : Host.Outcome State Fault Refusal := seqRow .s8 rsp s

/-- Step 9, read primary checksum (R102). -/
def execSeqStep9 (rsp : RspWord) (s : State) : Host.Outcome State Fault Refusal := seqRow .s9 rsp s

/-- Step 10, read secondary high (R103). -/
def execSeqStep10 (rsp : RspWord) (s : State) : Host.Outcome State Fault Refusal := seqRow .s10 rsp s

/-- Step 11, read secondary low (R104). -/
def execSeqStep11 (rsp : RspWord) (s : State) : Host.Outcome State Fault Refusal := seqRow .s11 rsp s

/-- Step 12, read secondary checksum, the final byte (R105). -/
def execSeqStep12 (rsp : RspWord) (s : State) : Host.Outcome State Fault Refusal := seqRow .s12 rsp s

/-- CLOSE completion (R110): both fields of the response are ignored (R119). -/
def execSeqClose (_rsp : RspWord) (s : State) : Host.Outcome State Fault Refusal :=
  if s.st = stClose then
    if s.pOk then .next s.closeValidated else s.closeFailed
  else .refused .rowNotSelected

end Sys2Proof.Machine
end

