-- ==== Sys2Proof/Machine/Dispatch.lean ====
section
/-! DEFINITION. The dispatch: one arm per row of spec/opcode_table.json, each one direct call of its meaning. -/

namespace Sys2Proof.Machine

def exec (i : Instr) (s : State) : Host.Outcome State Fault Refusal :=
  match i with
  | .start rsp => Sys2Proof.Machine.execStart rsp s
  | .restart rsp => Sys2Proof.Machine.execRestart rsp s
  | .write data rsp => Sys2Proof.Machine.execWrite data rsp s
  | .readAck rsp => Sys2Proof.Machine.execReadAck rsp s
  | .readNack rsp => Sys2Proof.Machine.execReadNack rsp s
  | .stop rsp => Sys2Proof.Machine.execStop rsp s
  | .status rsp => Sys2Proof.Machine.execStatus rsp s
  | .rdCtrl => Sys2Proof.Machine.execRdCtrl s
  | .wrCtrl data => Sys2Proof.Machine.execWrCtrl data s
  | .rdStatus => Sys2Proof.Machine.execRdStatus s
  | .rdRawP => Sys2Proof.Machine.execRdRawP s
  | .rdRawS => Sys2Proof.Machine.execRdRawS s
  | .rdErr => Sys2Proof.Machine.execRdErr s
  | .rdCrcIn => Sys2Proof.Machine.execRdCrcIn s
  | .wrCrcIn data => Sys2Proof.Machine.execWrCrcIn data s
  | .rdCrcOut => Sys2Proof.Machine.execRdCrcOut s
  | .wrRoStatus data => Sys2Proof.Machine.execWrRoStatus data s
  | .wrRoRawP data => Sys2Proof.Machine.execWrRoRawP data s
  | .wrRoRawS data => Sys2Proof.Machine.execWrRoRawS data s
  | .wrRoErr data => Sys2Proof.Machine.execWrRoErr data s
  | .wrRoCrcOut data => Sys2Proof.Machine.execWrRoCrcOut data s
  | .rdRsv => Sys2Proof.Machine.execRdRsv s
  | .wrRsv data => Sys2Proof.Machine.execWrRsv data s
  | .seqStep1 rsp => Sys2Proof.Machine.execSeqStep1 rsp s
  | .seqStep2 rsp => Sys2Proof.Machine.execSeqStep2 rsp s
  | .seqStep3 rsp => Sys2Proof.Machine.execSeqStep3 rsp s
  | .seqStep4 rsp => Sys2Proof.Machine.execSeqStep4 rsp s
  | .seqStep5 rsp => Sys2Proof.Machine.execSeqStep5 rsp s
  | .seqStep6 rsp => Sys2Proof.Machine.execSeqStep6 rsp s
  | .seqStep7 rsp => Sys2Proof.Machine.execSeqStep7 rsp s
  | .seqStep8 rsp => Sys2Proof.Machine.execSeqStep8 rsp s
  | .seqStep9 rsp => Sys2Proof.Machine.execSeqStep9 rsp s
  | .seqStep10 rsp => Sys2Proof.Machine.execSeqStep10 rsp s
  | .seqStep11 rsp => Sys2Proof.Machine.execSeqStep11 rsp s
  | .seqStep12 rsp => Sys2Proof.Machine.execSeqStep12 rsp s
  | .seqClose rsp => Sys2Proof.Machine.execSeqClose rsp s
  | .validate h l c => Sys2Proof.Machine.execValidate h l c s

end Sys2Proof.Machine
end

