-- ==== Sys2Proof/Machine/Events.lean ====
section
/-! DEFINITION. What one event does (10_state.md R20): it is decoded, the operation it stands for is executed, and SEQ's
reaction to a bus response follows in the same event. -/

namespace Sys2Proof.Machine

/-- The agent that takes an event (R19). SEQ takes none of its own: it moves inside the events of HOST and BUS (R20). -/
def agentOf : Event → Agent
  | .host _ => .host
  | .bus _ => .bus
  | .reset => .reset

/-- A host access (R120-R130), refused unless it is one aligned 32-bit access inside the window (R46). -/
def runHost (a : HostAccess) (s : State) : Host.Outcome State Fault Refusal :=
  match a.refusal with
  | some r => .refused r
  | none =>
    match decode (.hostAcc a.descriptor a.data) with
    | .ok i => exec i s
    | .bad _ => .refused .outsideWindow

/-- SEQ's reaction to a response, by the step-ROM row that ST selects (R72, R92, R110); none in IDLE (log entry 9). -/
def react (rsp : RspWord) (s : State) : Host.Outcome State Fault Refusal :=
  if s.st = 0#4 then .next s
  else
    match decode (.stepRom s.st rsp) with
    | .ok i => exec i s
    | .bad _ => .fault .unreachableState

/-- A request that SEQ never issues: DATA not 0 and OP not WRITE (R59, R66). -/
def dataWithoutWrite (req : ReqWord) : Bool := reqOp req != 0b010#3 && reqData req != 0x00#8

/-- The response event (R72): the BUS agent performs the outstanding request and answers it, and SEQ reacts. A request that
U7 or U9 names is a fault (log entry 8). -/
def runBus (rsp : RspWord) (s : State) : Host.Outcome State Fault Refusal :=
  if s.reqV then
    match decode (.blReq s.req rsp) with
    | .ok i =>
      if dataWithoutWrite s.req then .fault .dataWithoutWrite
      else
        match exec i s with
        | .next t => react rsp t
        | .fault r => .fault r
        | .refused r => .refused r
    | .bad _ => .fault .reservedRequest
  else .refused .noRequest

/-- The states that no rule produces: ST = 14, 15 (R21, U6); ERR.KIND = 6, 7 or ERR.STEP = 14, 15 (R30, R31, U10). -/
def foundFault (s : State) : Option Fault :=
  if 14 ≤ s.st.toNat then some .unreachableState
  else if 6 ≤ s.err.kind.toNat ∨ 14 ≤ s.err.step.toNat then some .unwrittenErr
  else none

/-- What an event of HOST or BUS does, in a state that the rules produce; a fault in any other (log entry 13). -/
def checked (s : State) (o : Host.Outcome State Fault Refusal) : Host.Outcome State Fault Refusal :=
  match foundFault s with
  | some f => .fault f
  | none => o

/-- One event. RESET acts in any state (R149). -/
def runEvent (e : Event) (s : State) : Host.Outcome State Fault Refusal :=
  match e with
  | .host a => checked s (runHost a s)
  | .bus rsp => checked s (runBus rsp s)
  | .reset => .next s.resetEvent

/-- The state with the first event taken off the list of events to come. -/
def State.setEvents (s : State) (es : List Event) : State := { s with events := es }

end Sys2Proof.Machine
end

