-- ==== Sys2Proof/Machine/Fetch.lean ====
section
/-! DEFINITION. Placing one encoded word so that the next step runs it. TWSEQ fetches nothing (20_memory.md R56): a host
operation comes as the next event (VALIDATE as its two accesses, the next two events), a bus-link operation is the request
outstanding on the port, a step-ROM row is selected by ST (log entry 25). -/

namespace Sys2Proof.Machine

/-- The access that a HOST_ACC descriptor describes (R63). -/
def accessOf (desc : BitVec 9) (data : Word) : HostAccess where
  isWrite := desc.getLsbD 8
  off := (desc.extractLsb' 0 8).toNat
  width := 4
  data := data

/-- `Issue` of a whole request word (R71). -/
def State.place (s : State) (req : ReqWord) : State :=
  { s with req := req, reqV := true, trace := s.trace ++ [{ req := req, rsp := none }] }

/-- The request outstanding while ST awaits a response: the step's own, or STOP in CLOSE (R62). -/
def requestAt (st : BitVec 4) : ReqWord :=
  match stepOfNum st with
  | some k => romReq k
  | none => reqWord .stop 0x00#8

/-- The two accesses that a VALIDATE word stands for: `W CRC_IN, word` then `R CRC_OUT` (R70, R64). -/
def validateAccesses (word : Word) : List HostAccess := [accessOf 0x114#9 word, accessOf 0x018#9 0#32]

/-- `s` with the encoded word placed where the next step takes it. -/
def placeCode (c : Code) (s : State) : State :=
  match c with
  | .hostAcc desc data => s.setEvents (.host (accessOf desc data) :: s.events)
  | .crcIn word =>
    match decodeQuery word with
    | .ok _ => s.setEvents ((validateAccesses word).map Event.host ++ s.events)
    | .bad _ => s
  | .blReq req rsp => (s.place req).setEvents (.bus rsp :: s.events)
  | .stepRom st rsp =>
    let t := ((s.setSt st).place (requestAt st)).setEvents (.bus rsp :: s.events)
    if st = stClose ∧ t.pOk = false ∧ stepOfNum t.pStep = none then { t with pStep := 1#4 } else t

/-- `s` with the table word placed, or `s` itself where the word is none of the table's formats. -/
def placeWord (s : State) (nbits w : Nat) : State :=
  match tableCode nbits w with
  | some c => placeCode c s
  | none => s

end Sys2Proof.Machine
end

