-- ==== Sys2Proof/Machine/Step.lean ====
section
/-! DEFINITION. One step: the first of the events to come (10_state.md R20). -/

namespace Sys2Proof.Machine

/-- One event in the total order (R20). With no event left, no agent moves: the machine is stuck (R148, R155, U3). -/
def step (s : State) : Host.Outcome State Fault Refusal :=
  match s.events with
  | [] => .fault .noEvent
  | e :: rest => runEvent e (s.setEvents rest)

/-- `s` with the operation of the table word `w` placed as the next one to run. -/
def State.withFetchWord (s : State) (nbits w : Nat) : State := placeWord s nbits w

end Sys2Proof.Machine
end

