-- ==== Sys2Proof/Machine/Contract.lean ====
section
/-! DEFINITION. The host's side of the interface: the two line notations and the pseudo-instructions (30_encoding.md R69,
R70), the protocol of one transaction (43_host_interface.md R131), RawReading (R133) and its conversion (R132). -/

namespace Sys2Proof.Machine

/-- The register names of the host stream (R69). -/
inductive HostReg where
  | ctrl | status | rawP | rawS | err | crcIn | crcOut | rsv
deriving DecidableEq, Repr

/-- The offset of a register (R34). -/
def regOff : HostReg → Nat
  | .ctrl => 0x00
  | .status => 0x04
  | .rawP => 0x08
  | .rawS => 0x0C
  | .err => 0x10
  | .crcIn => 0x14
  | .crcOut => 0x18
  | .rsv => 0x1C

/-- A line of the host stream: `W <reg>, <value>` or `R <reg>` (R69). -/
inductive HostLine where
  | w (reg : HostReg) (value : Word)
  | r (reg : HostReg)
deriving DecidableEq, Repr

/-- The access of a host line (R69). -/
def lineAccess : HostLine → HostAccess
  | .w reg value => { isWrite := true, off := regOff reg, width := 4, data := value }
  | .r reg => { isWrite := false, off := regOff reg, width := 4, data := 0#32 }

/-- The event of a host line. -/
def lineEvent (l : HostLine) : Event := .host (lineAccess l)

/-- A line of the bus-link stream: `<mnemonic> [<byte>] => <status> [<rdata>]` (R69). -/
inductive BusLine where
  | start (status : Byte)
  | restart (status : Byte)
  | write (byte status : Byte)
  | readAck (status rdata : Byte)
  | readNack (status rdata : Byte)
  | stop
  | status (status : Byte)
deriving DecidableEq, Repr

/-- The BL_REQ word and the BL_RSP word of a bus-link line, don't-care fields 0x00 (R69). -/
def busLineWords : BusLine → ReqWord × RspWord
  | .start status => (reqWord .start 0x00#8, 0x00#8 ++ status)
  | .restart status => (reqWord .restart 0x00#8, 0x00#8 ++ status)
  | .write byte status => (reqWord .write byte, 0x00#8 ++ status)
  | .readAck status rdata => (reqWord .readAck 0x00#8, rdata ++ status)
  | .readNack status rdata => (reqWord .readNack 0x00#8, rdata ++ status)
  | .stop => (reqWord .stop 0x00#8, 0x0000#16)
  | .status status => (reqWord .status 0x00#8, 0x00#8 ++ status)

/-- The event of a bus-link line: the answer it gives. -/
def busLineEvent (l : BusLine) : Event := .bus (busLineWords l).2

/-- The name of a register in the host stream (R69). -/
def regName : HostReg → String
  | .ctrl => "CTRL"
  | .status => "STATUS"
  | .rawP => "RAW_P"
  | .rawS => "RAW_S"
  | .err => "ERR"
  | .crcIn => "CRC_IN"
  | .crcOut => "CRC_OUT"
  | .rsv => "RSV"

/-- One hexadecimal digit. -/
def hexDigit (n : Nat) : String :=
  match n with
  | 0 => "0" | 1 => "1" | 2 => "2" | 3 => "3" | 4 => "4" | 5 => "5" | 6 => "6" | 7 => "7"
  | 8 => "8" | 9 => "9" | 10 => "A" | 11 => "B" | 12 => "C" | 13 => "D" | 14 => "E" | _ => "F"

/-- The low `k` hexadecimal digits of a number, the most significant first. -/
def hexDigits : Nat → Nat → String
  | 0, _ => ""
  | k + 1, n => hexDigits k (n / 16) ++ hexDigit (n % 16)

/-- A byte or a word as a hexadecimal literal (R16). -/
def hexByte (b : Byte) : String := "0x" ++ hexDigits 2 b.toNat
def hexWord (w : Word) : String := "0x" ++ hexDigits 8 w.toNat

/-- The text of a host line; a read shows the word it returned, if it has been made (R69). -/
def hostText (l : HostLine) (returned : Option Word) : String :=
  match l, returned with
  | .w reg value, _ => "W " ++ regName reg ++ ", " ++ hexWord value
  | .r reg, some v => "R " ++ regName reg ++ " -> " ++ hexWord v
  | .r reg, none => "R " ++ regName reg

/-- The text of a bus-link line: `<byte>` for WRITE, `<rdata>` for the reads, nothing after STOP (R69). -/
def busText : BusLine → String
  | .start status => "START => " ++ hexByte status
  | .restart status => "RESTART => " ++ hexByte status
  | .write byte status => "WRITE " ++ hexByte byte ++ " => " ++ hexByte status
  | .readAck status rdata => "READ_ACK => " ++ hexByte status ++ " " ++ hexByte rdata
  | .readNack status rdata => "READ_NACK => " ++ hexByte status ++ " " ++ hexByte rdata
  | .stop => "STOP"
  | .status status => "STATUS => " ++ hexByte status

/-- The access to an address of the platform: its offset counts from WINDOW_BASE (R13, R43). -/
def accessAt (p : Params) (isWrite : Bool) (addr width : Nat) (data : Word) : HostAccess where
  isWrite := isWrite
  off := (addr : Int) - (p.windowBase : Int)
  width := width
  data := data

/-- The pseudo-instruction GO (R70). -/
def goLine : HostLine := .w .ctrl 0x00000001#32

/-- The expansion of the pseudo-instruction VALIDATE h, l, c (R70). -/
def validateLines (h l c : Byte) : List HostLine :=
  [.w .crcIn (0#8 ++ h ++ l ++ c), .r .crcOut]

/-- What comes of a piece of the host's program: it is over, with a value; it is not over yet; it was not begun, as a duty of
the host asks; or it stopped. -/
inductive HostResult (α : Type) where
  | done (value : α) (s : State)
  | waiting (s : State)
  | notIssued (s : State)
  | fault (r : Fault)
  | refused (r : Refusal)
deriving DecidableEq, Repr

/-- One piece of the host's program after another. -/
def HostResult.andThen {α β : Type} (r : HostResult α) (f : α → State → HostResult β) : HostResult β :=
  match r with
  | .done a s => f a s
  | .waiting s => .waiting s
  | .notIssued s => .notIssued s
  | .fault e => .fault e
  | .refused e => .refused e

/-- The outcome of a step as a piece of the host's program, with a value of the next state. -/
def ofStep {α : Type} (value : State → α) (o : Host.Outcome State Fault Refusal) : HostResult α :=
  match o with
  | .next t => .done (value t) t
  | .fault r => .fault r
  | .refused r => .refused r

/-- The host makes the access of a line: one event (R20), before those to come. -/
def hostDo (l : HostLine) (s : State) : HostResult Unit :=
  ofStep (fun _ => ()) (step (s.setEvents (lineEvent l :: s.events)))

/-- The host reads a register: the value is the word that the read delivered. A read that answers always delivers one
(R121-R126, R128, R130). -/
def hostRead (reg : HostReg) (s : State) : HostResult Word :=
  ofStep (fun t => t.hostData.getD 0x00000000#32) (step (s.setEvents (lineEvent (.r reg) :: s.events)))

/-- Up to `n` events of the other agents between two accesses of the host (R20). With none left, nothing happens (R155). -/
def elapse : Nat → State → HostResult Unit
  | 0, s => .done () s
  | n + 1, s =>
    match s.events with
    | [] => .done () s
    | _ :: _ =>
      match step s with
      | .next t => elapse n t
      | .fault r => .fault r
      | .refused r => .refused r

/-- The pseudo-instruction WAITIDLE (R70): repeat `R STATUS -> v` until `v[0] = 0`; its value is that v. `gaps` says how many
events of the other agents come before each poll. It is done only when a poll reads BUSY = 0: after the polls that `gaps` has
room for, all with BUSY = 1, it is still waiting, and in a hang it waits for every `gaps` (R155). Log entry 22. -/
def waitIdle : List Nat → State → HostResult Word
  | [], s => .waiting s
  | g :: gaps, s =>
    (elapse g s).andThen fun _ t =>
      (hostRead .status t).andThen fun v u => if v.getLsbD 0 then waitIdle gaps u else .done v u

/-- The pseudo-instruction TRANSACT: GO, then WAITIDLE (R70). -/
def transact (gaps : List Nat) (s : State) : HostResult Word :=
  (hostDo goLine s).andThen fun _ t => waitIdle gaps t

/-- The pseudo-instruction VALIDATE h, l, c in the host's program (R70), with up to `g` events of the other agents between its
two accesses (R156). -/
def validateQuery (g : Nat) (h l c : Byte) (s : State) : HostResult Word :=
  (hostDo (.w .crcIn (0#8 ++ h ++ l ++ c)) s).andThen fun _ t =>
    (elapse g t).andThen fun _ u => hostRead .crcOut u

/-- RawReading: primaryValue and secondaryValue (00_scope.md glossary). -/
structure RawReading where
  primaryValue : Raw
  secondaryValue : Raw
deriving DecidableEq, Repr

/-- What the host has of a transaction, decoded from the STATUS word (R131); noResult where OUTCOME is NONE (log entry 26). -/
inductive Report where
  | noResult
  | reading (value : RawReading)
  | busFail (kind : BitVec 3) (step : BitVec 4) (status : Byte)
  | crcFail (primaryBad secondaryBad : Bool) (status : Byte)
deriving DecidableEq, Repr

/-- The protocol's last part: `case v[2:1]` of the STATUS word, and the register words it calls for (R131). R131 has no case for
OUTCOME = NONE: noResult is the model's choice there. Log entry 26. -/
def collect (statusW rawPW rawSW errW : Word) : Report :=
  if statusW.extractLsb' 1 2 = outOk then
    .reading { primaryValue := rawPW.extractLsb' 0 16, secondaryValue := rawSW.extractLsb' 0 16 }
  else if statusW.extractLsb' 1 2 = outBusFail then
    .busFail (errW.extractLsb' 12 3) (errW.extractLsb' 8 4) (errW.extractLsb' 0 8)
  else if statusW.extractLsb' 1 2 = outCrcFail then
    .crcFail (statusW.getLsbD 4) (statusW.getLsbD 5) (errW.extractLsb' 0 8)
  else .noResult

/-- RAW_P and RAW_S are a RawReading only while OUTCOME = OK (R133). -/
def rawReading (s : State) : Option RawReading :=
  if s.outcome = outOk then some { primaryValue := s.rawP, secondaryValue := s.rawS } else none

/-- The host reads RAW_P or RAW_S and takes the word as part of a reading: a host fault while OUTCOME is not OK (R133, U18).
The block itself reads back the stale value (`hostRead`). Log entry 26. -/
def readAsReading (reg : HostReg) (s : State) : HostResult Word :=
  if s.outcome = outOk then hostRead reg s else .fault .staleRaw

/-- `R RAW_P, R RAW_S`, used as the RawReading (R131, R133), with up to `g` events of the other agents between the reads. -/
def useRaw (g : Nat) (s : State) : HostResult RawReading :=
  (readAsReading .rawP s).andThen fun p t =>
    (elapse g t).andThen fun _ u =>
      (readAsReading .rawS u).andThen fun q w =>
        .done { primaryValue := p.extractLsb' 0 16, secondaryValue := q.extractLsb' 0 16 } w

/-- `case v[2:1]` of R131: the reads that the outcome calls for, and what they report. OUTCOME is NONE where a RESET ended
the transaction (R149); there is nothing to read then. -/
def collectReads (v : Word) (g : Nat) (s : State) : HostResult Report :=
  if v.extractLsb' 1 2 = outOk then
    (useRaw g s).andThen fun r t => .done (.reading r) t
  else if v.extractLsb' 1 2 = outNone then .done .noResult s
  else (hostRead .err s).andThen fun e t => .done (collect v 0#32 0#32 e) t

/-- The host protocol for one transaction (R131): GO only when BUSY = 0 (R134), WAITIDLE, then the reads that the outcome calls
for. Up to `g` events of the other agents come before those reads and up to `g'` between the two reads of RAW. Log entry 26. -/
def protocol (gaps : List Nat) (g g' : Nat) (s : State) : HostResult Report :=
  if busy s then .notIssued s
  else
    (transact gaps s).andThen fun v t => (elapse g t).andThen fun _ u => collectReads v g' u

/-- `primaryPhysical`, exact rational arithmetic on the unsigned value (R132). -/
def primaryPhysical (raw : Raw) : ℚ := (raw.toNat : ℚ) * 315 / 65535 - 49

/-- `secondaryPhysical`, exact rational arithmetic on the unsigned value (R132). -/
def secondaryPhysical (raw : Raw) : ℚ := (raw.toNat : ℚ) * 100 / 65535

end Sys2Proof.Machine
end

