-- ==== Sys2Proof/Safety.lean ====
section
/-! DEFINITION. What a safe run is: the invariants the spec says hold after every event (10_state.md R21, R25, R27;
42_sequencer.md R116), the events an environment that keeps its duties gives (43_host_interface.md R134), quiescence, the
end of a transaction and the hang. -/

namespace Sys2Proof.Machine

/-- The words SEQ ever puts on the request port (R59). -/
def portWords : List ReqWord :=
  [0x000#11, 0x288#11, 0x22C#11, 0x206#11, 0x100#11, 0x289#11, 0x300#11, 0x400#11, 0x500#11]

/-- ERR holds no failure, a bus failure with the class of its step, or a checksum failure (R30, R31, R116). -/
def ErrReg.Consistent (e : ErrReg) : Prop :=
  (e.step = 0#4 ∧ e.kind = 0#3) ∨
  (∃ k : TransactionStep, e.step = stepNum k ∧ e.kind = kindOf k) ∨
  (e.step = 13#4 ∧ e.kind = 5#3)

/-- The invariants of the block, between events. -/
structure State.Inv (s : State) : Prop where
  /-- ST is never 14 or 15 (R21). -/
  stReached : s.st.toNat ≤ 13
  /-- `REQ_V == BUSY` (R25). -/
  reqVBusy : s.reqV = true ↔ s.st ≠ 0#4
  /-- The outstanding request is the one ST awaits the answer of (R62, R92, R107). -/
  reqOfSt : s.st ≠ 0#4 → s.req = requestAt s.st
  /-- `BUSY = 1` implies `OUTCOME = NONE` (R116). -/
  busyNone : s.st ≠ 0#4 → s.outcome = 0#2
  /-- `OUTCOME != CRC_FAIL` implies `CRC_BAD = 0b00` (R116). -/
  crcBadOnly : s.outcome ≠ 3#2 → s.crcBad = 0#2
  /-- `OUTCOME = CRC_FAIL` implies ERR.STEP = 13, ERR.KIND = 5 and CRC_BAD not 0 (R116). -/
  crcFailErr : s.outcome = 3#2 → s.err.step = 13#4 ∧ s.err.kind = 5#3 ∧ s.crcBad ≠ 0#2
  /-- `OUTCOME = BUS_FAIL` implies that ERR names a step with its class (R116). -/
  busFailErr : s.outcome = 2#2 → ∃ k : TransactionStep, s.err.step = stepNum k ∧ s.err.kind = kindOf k
  /-- ERR is consistent (R30, R31, R116). -/
  errConsistent : s.err.Consistent
  /-- In CLOSE the latches hold a matched step 12 or a failed step that the policy follows with a stop (R24, R105, R107). -/
  closeLatch : s.st = 13#4 →
    (s.pOk = true ∧ s.pStep = 12#4 ∧ s.pStatus = s.cfg.expDataRNack) ∨
    (s.pOk = false ∧ ∃ k : TransactionStep, s.pStep = stepNum k ∧
      stopAfterFail s.cfg.stopPolicy k = true ∧ s.pStatus ≠ expected s.cfg k)
  /-- SEQ issues no other words than those of R59. -/
  traceWords : ∀ e ∈ s.trace, e.req ∈ portWords
  /-- While busy the last entry of TRACE is the outstanding request; all others, and in IDLE all, are answered (R71, R72). -/
  traceLast : s.st ≠ 0#4 → ∃ l, s.trace = l ++ [{ req := s.req, rsp := none }] ∧ ∀ e ∈ l, e.rsp ≠ none
  traceIdle : s.st = 0#4 → ∀ e ∈ s.trace, e.rsp ≠ none

/-- Quiescence: `BUSY = 0` (R162). -/
def quiescent (s : State) : Bool := !busy s

/-- The events an environment that keeps to R46 and R134 gives: admitted accesses, answers only to an outstanding
request, and RESET. -/
def allowed (s : State) (e : Event) : Bool :=
  match e with
  | .host a => a.refusal == none
  | .bus _ => s.reqV
  | .reset => true

/-- An event that can neither answer a request nor reset: what is left of the environment in a hang (R155). -/
def onlyHost (e : Event) : Bool :=
  match e with
  | .host _ => true
  | .bus _ | .reset => false

/-- The event from `s` to `t` ends a transaction (R117). -/
def ends (s t : State) : Bool := busy s && !busy t

end Sys2Proof.Machine
end

