-- ==== Sys2Proof/Certificates/Slice0/Obligations.lean ====
section
/-! DEFINITION. The statements about TWSEQ for the provers. Each docstring names the rules it formalises. -/

open Sys2Proof Sys2Proof.Machine

/-! ## Encoding -/

/-- R57, R58, R62-R64 and the opcode table: an encoded instruction decodes to itself, its code is well formed; and a
well-formed code decodes, to an instruction whose code it is (a read's data word, which no field carries, aside). -/
def Obligations.DecodeEncodeAgree : Prop :=
  (∀ i : Instr, i.wf = true → (encode i).wf = true ∧ decode (encode i) = .ok i) ∧
  (∀ c : Code, c.wf = true → ∃ i : Instr, i.wf = true ∧ decode c = .ok i ∧
    (encode i = c ∨
      ∃ desc data, c = .hostAcc desc data ∧ desc.getLsbD 8 = false ∧ encode i = .hostAcc desc 0#32))

/-- R63, R66, R70, R21: which words have no operation, and the name of the reason (a VALIDATE word's: log entry 21). -/
def Obligations.DecodeRejectsExactlyTheReserved : Prop :=
  (∀ req rsp, decode (.blReq req rsp) = .bad .reservedOp ↔ req.extractLsb' 8 3 = 7#3) ∧
  (∀ desc data, decode (.hostAcc desc data) = .bad .notAdmitted ↔
    ¬ (desc.extractLsb' 0 2 = 0#2 ∧ desc.extractLsb' 5 3 = 0#3)) ∧
  (∀ st rsp, decode (.stepRom st rsp) = .bad .unreachableState ↔ st = 14#4 ∨ st = 15#4) ∧
  (∀ st rsp, decode (.stepRom st rsp) = .bad .idleState ↔ st = 0#4) ∧
  (∀ word, decode (.crcIn word) = .bad .queryTopByte ↔ word.extractLsb' 24 8 ≠ 0#8)

/-- R58, R62, R64: words written out from the spec's tables, one or more of every family. -/
def Obligations.SpecWordsDecode : Prop :=
  (∀ rsp, decode (.blReq 0b00100000000#11 rsp) = .ok (.restart rsp)) ∧
  (∀ rsp, decode (.blReq 0b01010001000#11 rsp) = .ok (.write 0x88#8 rsp)) ∧
  (∀ rsp, decode (.blReq 0b10100000000#11 rsp) = .ok (.stop rsp)) ∧
  (∀ data, decode (.hostAcc 0b100000000#9 data) = .ok (.wrCtrl data)) ∧
  (∀ data, decode (.hostAcc 0b000010000#9 data) = .ok .rdErr) ∧
  (∀ data, decode (.hostAcc 0b100010100#9 data) = .ok (.wrCrcIn data)) ∧
  (∀ rsp, decode (.stepRom 0b1100#4 rsp) = .ok (.seqStep12 rsp)) ∧
  decode (.crcIn 0x00DEAD98#32) = .ok (.validate 0xDE#8 0xAD#8 0x98#8)

/-- R59, R66 and log entry 8: DATA of a request other than WRITE plays no part in which operation it asks for. (A step on such
a request, if DATA is not 0, is the fault of U9: StepWithoutAnEnabledEvent.) -/
def Obligations.RequestDataIgnoredUnlessWrite : Prop :=
  ∀ (req req' : ReqWord) (rsp : RspWord),
    req.extractLsb' 8 3 = req'.extractLsb' 8 3 → req.extractLsb' 8 3 ≠ 2#3 →
      decode (.blReq req rsp) = decode (.blReq req' rsp)

/-! ## Bus-link operations -/

/-- R72, R74-R80: with its request outstanding, each bus-link operation answers it, with any response word: REQ_V is
cleared, the last TRACE entry records the response, and nothing else changes. DATA of a request other than WRITE plays no
part (R59, R66; log entry 8). -/
def Obligations.BusLinkOpsAnswerTheirRequest : Prop :=
  ∀ (s : State) (rsp : RspWord) (l : List Exchange) (e : Exchange), s.reqV = true → s.trace = l ++ [e] →
    (s.req.extractLsb' 8 3 = 0#3 → Machine.exec (.start rsp) s =
      .next { s with reqV := false, trace := l ++ [{ req := e.req, rsp := some rsp }] }) ∧
    (s.req.extractLsb' 8 3 = 1#3 → Machine.exec (.restart rsp) s =
      .next { s with reqV := false, trace := l ++ [{ req := e.req, rsp := some rsp }] }) ∧
    (∀ data : Byte, s.req = 0b010#3 ++ data → Machine.exec (.write data rsp) s =
      .next { s with reqV := false, trace := l ++ [{ req := e.req, rsp := some rsp }] }) ∧
    (s.req.extractLsb' 8 3 = 3#3 → Machine.exec (.readAck rsp) s =
      .next { s with reqV := false, trace := l ++ [{ req := e.req, rsp := some rsp }] }) ∧
    (s.req.extractLsb' 8 3 = 4#3 → Machine.exec (.readNack rsp) s =
      .next { s with reqV := false, trace := l ++ [{ req := e.req, rsp := some rsp }] }) ∧
    (s.req.extractLsb' 8 3 = 5#3 → Machine.exec (.stop rsp) s =
      .next { s with reqV := false, trace := l ++ [{ req := e.req, rsp := some rsp }] }) ∧
    (s.req.extractLsb' 8 3 = 6#3 → Machine.exec (.status rsp) s =
      .next { s with reqV := false, trace := l ++ [{ req := e.req, rsp := some rsp }] })

/-- R72, U16: with no request outstanding the BUS agent has no step; and it answers no other request than the outstanding
one (log entry 10). -/
def Obligations.BusLinkOpsStopWithoutTheirRequest : Prop :=
  ∀ (s : State) (rsp : RspWord) (data : Byte),
    (s.reqV = false →
      Machine.exec (.start rsp) s = .refused .noRequest ∧
      Machine.exec (.restart rsp) s = .refused .noRequest ∧
      Machine.exec (.write data rsp) s = .refused .noRequest ∧
      Machine.exec (.readAck rsp) s = .refused .noRequest ∧
      Machine.exec (.readNack rsp) s = .refused .noRequest ∧
      Machine.exec (.stop rsp) s = .refused .noRequest ∧
      Machine.exec (.status rsp) s = .refused .noRequest) ∧
    (s.reqV = true →
      (s.req.extractLsb' 8 3 ≠ 0#3 → Machine.exec (.start rsp) s = .refused .otherRequest) ∧
      (s.req.extractLsb' 8 3 ≠ 1#3 → Machine.exec (.restart rsp) s = .refused .otherRequest) ∧
      (s.req ≠ 0b010#3 ++ data → Machine.exec (.write data rsp) s = .refused .otherRequest) ∧
      (s.req.extractLsb' 8 3 ≠ 3#3 → Machine.exec (.readAck rsp) s = .refused .otherRequest) ∧
      (s.req.extractLsb' 8 3 ≠ 4#3 → Machine.exec (.readNack rsp) s = .refused .otherRequest) ∧
      (s.req.extractLsb' 8 3 ≠ 5#3 → Machine.exec (.stop rsp) s = .refused .otherRequest) ∧
      (s.req.extractLsb' 8 3 ≠ 6#3 → Machine.exec (.status rsp) s = .refused .otherRequest))

/-! ## Host operations -/

/-- R90: GO accepted in IDLE. Every element not written keeps its value. -/
def Obligations.GoAcceptedIssuesStart : Prop :=
  ∀ (s : State) (data : Word), data.getLsbD 0 = true → s.st = 0#4 →
    Machine.exec (.wrCtrl data) s = .next { s with
      outcome := 0#2, crcBad := 0b00#2, st := 1#4
      req := 0x000#11, reqV := true, trace := s.trace ++ [{ req := 0x000#11, rsp := none }] }

/-- R91: GO while ST is not 0 changes nothing and issues nothing. -/
def Obligations.GoWhileBusyIgnored : Prop :=
  ∀ (s : State) (data : Word), data.getLsbD 0 = true → s.st ≠ 0#4 → Machine.exec (.wrCtrl data) s = .next s

/-- R120: a write of CTRL reads only bit 0, and with bit 0 clear it has no effect. -/
def Obligations.CtrlWriteReadsOnlyBitZero : Prop :=
  (∀ (s : State) (data : Word), data.getLsbD 0 = false → Machine.exec (.wrCtrl data) s = .next s) ∧
  (∀ (s : State) (d d' : Word), d.getLsbD 0 = d'.getLsbD 0 →
    Machine.exec (.wrCtrl d) s = Machine.exec (.wrCtrl d') s)

/-- R121-R126, R128, R130 with the words of R34: every host read completes in every state, gives the HOST its register's word
and changes nothing else (R51). The word stands in the model's field hostData (log entry 3). -/
def Obligations.HostReadsReturnTheirWords : Prop :=
  ∀ s : State,
    Machine.exec .rdCtrl s = .next { s with hostData := some 0x00000000#32 } ∧
    Machine.exec .rdStatus s = .next { s with
      hostData := some ((s.st ++ 0b00#2 ++ s.crcBad ++ 0b0#1 ++ s.outcome ++ (if s.st = 0#4 then 0#1 else 1#1)).setWidth 32) } ∧
    Machine.exec .rdRawP s = .next { s with hostData := some (s.rawP.setWidth 32) } ∧
    Machine.exec .rdRawS s = .next { s with hostData := some (s.rawS.setWidth 32) } ∧
    Machine.exec .rdErr s = .next { s with
      hostData := some ((s.err.kind ++ s.err.step ++ s.err.status).setWidth 32) } ∧
    Machine.exec .rdCrcIn s = .next { s with
      hostData := some ((s.crcIn.high ++ s.crcIn.low ++ s.crcIn.chk).setWidth 32) } ∧
    Machine.exec .rdCrcOut s = .next { s with
      hostData := some (((if crc8 s.crcIn.high s.crcIn.low = s.crcIn.chk then 1#1 else 0#1) ++ crc8 s.crcIn.high s.crcIn.low).setWidth 32) } ∧
    Machine.exec .rdRsv s = .next { s with hostData := some 0x00000000#32 }

/-- R34: the fields of the STATUS, ERR and CRC_IN words stand at their bits, and the other bits read 0. -/
def Obligations.RegisterWordFields : Prop :=
  ∀ s : State,
    ((statusWord s).getLsbD 0 = true ↔ s.st ≠ 0#4) ∧
    (statusWord s).extractLsb' 1 2 = s.outcome ∧ (statusWord s).getLsbD 3 = false ∧
    (statusWord s).extractLsb' 4 2 = s.crcBad ∧ (statusWord s).extractLsb' 6 2 = 0#2 ∧
    (statusWord s).extractLsb' 8 4 = s.st ∧ (statusWord s).extractLsb' 12 20 = 0#20 ∧
    (errWord s.err).extractLsb' 0 8 = s.err.status ∧ (errWord s.err).extractLsb' 8 4 = s.err.step ∧
    (errWord s.err).extractLsb' 12 3 = s.err.kind ∧ (errWord s.err).extractLsb' 15 17 = 0#17 ∧
    (crcInWord s.crcIn).extractLsb' 0 8 = s.crcIn.chk ∧ (crcInWord s.crcIn).extractLsb' 8 8 = s.crcIn.low ∧
    (crcInWord s.crcIn).extractLsb' 16 8 = s.crcIn.high ∧ (crcInWord s.crcIn).extractLsb' 24 8 = 0#8

/-- R127: a write of CRC_IN sets the three fields from its data, in every state, and nothing else; CRC_OUT follows at once. -/
def Obligations.CrcInWriteSplitsData : Prop :=
  ∀ (s : State) (data : Word), ∃ t : State,
    Machine.exec (.wrCrcIn data) s = .next t ∧
    t = { s with
      crcIn := { high := data.extractLsb' 16 8, low := data.extractLsb' 8 8, chk := data.extractLsb' 0 8 } } ∧
    crcMatch t.crcIn = validate (data.extractLsb' 16 8) (data.extractLsb' 8 8) (data.extractLsb' 0 8) ∧
    crcRem t.crcIn = crc8 (data.extractLsb' 16 8) (data.extractLsb' 8 8)

/-- R129: a write to a read-only register changes nothing. -/
def Obligations.ReadOnlyWritesIgnored : Prop :=
  ∀ (s : State) (data : Word),
    Machine.exec (.wrRoStatus data) s = .next s ∧ Machine.exec (.wrRoRawP data) s = .next s ∧
    Machine.exec (.wrRoRawS data) s = .next s ∧ Machine.exec (.wrRoErr data) s = .next s ∧
    Machine.exec (.wrRoCrcOut data) s = .next s

/-- R130: the reserved offset reads 0 and ignores writes. -/
def Obligations.ReservedOffset : Prop :=
  ∀ (s : State) (data : Word),
    Machine.exec .rdRsv s = .next { s with hostData := some 0x00000000#32 } ∧ Machine.exec (.wrRsv data) s = .next s

/-- R70, R83, R89: VALIDATE leaves its operands in CRC_IN and gives the HOST `{validate(h, l, c), crc8(h, l)}`; it is the
write of CRC_IN followed by the read of CRC_OUT. That nothing stands between the two is the model's choice for exec; in a run
they are two events (log entry 11). -/
def Obligations.ValidateIsItsExpansion : Prop :=
  ∀ (s : State) (h l c : Byte),
    Machine.exec (.validate h l c) s = .next { s with
      crcIn := { high := h, low := l, chk := c }
      hostData := some (((if crc8 h l = c then 1#1 else 0#1) ++ crc8 h l).setWidth 32) } ∧
    ∃ t, Machine.exec (.wrCrcIn (0#8 ++ h ++ l ++ c)) s = .next t ∧
      Machine.exec .rdCrcOut t = Machine.exec (.validate h l c) s

/-- R43, R46, U11, U12: the accesses TWSEQ gives no meaning. Which reason is named, where two apply, is the model's choice
(log entry 15). -/
def Obligations.OtherHostAccessesRefused : Prop :=
  ∀ (s : State) (a : HostAccess) (rest : List Event), s.events = .host a :: rest → foundFault s = none →
    ((a.off < 0 ∨ 32 ≤ a.off) → Machine.step s = .refused .outsideWindow) ∧
    (0 ≤ a.off → a.off < 32 → a.width ≠ 4 → Machine.step s = .refused .accessWidth) ∧
    (0 ≤ a.off → a.off < 32 → a.width = 4 → a.off % 4 ≠ 0 → Machine.step s = .refused .misaligned)

/-- R13, R43, R46: by its platform address, an access is admitted exactly when it is 32 bits wide, inside the 32 bytes from
WINDOW_BASE and at a multiple of 4 from it. -/
def Obligations.WindowAdmitsExactlyItsWords : Prop :=
  ∀ (p : Params) (isWrite : Bool) (addr width : Nat) (data : Word),
    (accessAt p isWrite addr width data).refusal = none ↔
      width = 4 ∧ p.windowBase ≤ addr ∧ addr < p.windowBase + 32 ∧ (addr - p.windowBase) % 4 = 0

/-- R37, R51, R52: a host event other than a GO accepted in IDLE changes nothing but CRC_IN and what the HOST has read (a
field of the model, log entry 3). -/
def Obligations.HostEventFrame : Prop :=
  ∀ (s t : State) (e : Event) (rest : List Event), s.events = e :: rest → onlyHost e = true →
    Machine.step s = .next t →
    (s.st = 0#4 ∧ ∃ a, e = .host a ∧ a.isWrite = true ∧ a.off = 0 ∧ a.data.getLsbD 0 = true) ∨
    t = { s with events := rest, crcIn := t.crcIn, hostData := t.hostData }

/-! ## Checksum -/

/-- R85: exactly one checksum validates, the value of crc8, and for a fixed byte the map of the other is a bijection. -/
def Obligations.ExactlyOneChecksum : Prop :=
  (∀ h l c : Byte, validate h l c = true ↔ c = crc8 h l) ∧
  (∀ h l : Byte, ∃! c : Byte, validate h l c = true) ∧
  (∀ h : Byte, Function.Bijective (fun l => crc8 h l)) ∧
  (∀ l : Byte, Function.Bijective (fun h => crc8 h l))

/-- R86: a single flipped bit in any of the three bytes of a valid triple is detected. -/
def Obligations.SingleBitCorruptionDetected : Prop :=
  ∀ (h l c : Byte) (i : Nat), i < 8 → validate h l c = true →
    validate (h ^^^ BitVec.twoPow 8 i) l c = false ∧
    validate h (l ^^^ BitVec.twoPow 8 i) c = false ∧
    validate h l (c ^^^ BitVec.twoPow 8 i) = false

/-- R81, R82, R87: the checksum is affine, as a cyclic redundancy check is, and has the spec's values (R81, R82, R87) and those
that R81 and R82 give for the sixteen single-bit payloads; with affinity these determine crc8 on every payload. -/
def Obligations.ChecksumIsAffine : Prop :=
  (∀ h l h' l' : Byte,
    crc8 (h ^^^ h') (l ^^^ l') = crc8 h l ^^^ crc8 h' l' ^^^ crc8 0x00#8 0x00#8) ∧
  crc8 0x00#8 0x00#8 = 0x81#8 ∧
  (List.range 8).map (fun i => crc8 (BitVec.twoPow 8 i) 0x00#8) =
    [0x75#8, 0x58#8, 0x02#8, 0xB6#8, 0xEF#8, 0x5D#8, 0x08#8, 0xA2#8] ∧
  (List.range 8).map (fun i => crc8 0x00#8 (BitVec.twoPow 8 i)) =
    [0xB0#8, 0xE3#8, 0x45#8, 0x38#8, 0xC2#8, 0x07#8, 0xBC#8, 0xFB#8] ∧
  crc8 0xFF#8 0x00#8 = 0x00#8 ∧ crc8 0xFF#8 0xFF#8 = 0xAC#8 ∧
  crc8 0xDE#8 0xAD#8 = 0x98#8 ∧ validate 0xDE#8 0xAD#8 0x98#8 = true ∧
  shift8 0x00#8 = 0x00#8 ∧ shift8 0x01#8 = 0x31#8 ∧ shift8 0x80#8 = 0x7A#8 ∧ shift8 0xFF#8 = 0xAC#8

/-! ## Sequencer -/

/-- R62: the step ROM: each step's request word and expected status, and the step that follows. -/
def Obligations.StepRomRows : Prop :=
  allSteps.map stepNum = [1#4, 2#4, 3#4, 4#4, 5#4, 6#4, 7#4, 8#4, 9#4, 10#4, 11#4, 12#4] ∧
  allSteps.map romReq = [0x000#11, 0x288#11, 0x22C#11, 0x206#11, 0x100#11, 0x289#11,
    0x300#11, 0x300#11, 0x300#11, 0x300#11, 0x300#11, 0x400#11] ∧
  (∀ p : Params, allSteps.map (expected p) =
    [p.expStart, p.expSlaWAck, p.expDataWAck, p.expDataWAck, p.expStart, p.expSlaRAck,
      p.expDataRAck, p.expDataRAck, p.expDataRAck, p.expDataRAck, p.expDataRAck, p.expDataRNack]) ∧
  (∀ k : TransactionStep, k ∈ allSteps)

/-- R106: the stop policy: its table, its default, and that a matched step 12 is followed by the closing stop under both. -/
def Obligations.StopPolicyTable : Prop :=
  (∀ k : TransactionStep,
    stopAfterFail .always k = true ∧
    (stopAfterFail .source k = true ↔ stepNum k ∈ [2#4, 3#4, 4#4, 6#4])) ∧
  Config.platform.stopPolicy = .always ∧
  (∀ (s : State) (rdata : Byte), s.st = 12#4 → ∃ t : State,
    Machine.exec (.seqStep12 (rdata ++ s.cfg.expDataRNack)) s = .next t ∧
      t.st = 13#4 ∧ t.reqV = true ∧ t.req = 0x500#11)

/-- R30, R108: the failure class of a step, and of the tag 13. -/
def Obligations.FailureClassTable : Prop :=
  ∀ k : TransactionStep,
    (stepNum k ∈ [1#4, 5#4] → kindOf k = 1#3) ∧ (stepNum k ∈ [2#4, 6#4] → kindOf k = 2#3) ∧
    (stepNum k ∈ [3#4, 4#4] → kindOf k = 3#3) ∧ (7 ≤ (stepNum k).toNat → kindOf k = 4#3) ∧
    stepChecksum = 13#4 ∧ kindChecksum = 5#3

/-- R94-R99: steps 1 to 6 on a match: the next step's request is issued and nothing but ST, the request port and TRACE
changes; rdata is ignored. -/
def Obligations.MatchedStepsOneToSix : Prop :=
  ∀ (s : State) (rdata status : Byte),
    (s.st = 1#4 → status = s.cfg.expStart → Machine.exec (.seqStep1 (rdata ++ status)) s = .next { s with
      st := 2#4, req := 0x288#11, reqV := true, trace := s.trace ++ [{ req := 0x288#11, rsp := none }] }) ∧
    (s.st = 2#4 → status = s.cfg.expSlaWAck → Machine.exec (.seqStep2 (rdata ++ status)) s = .next { s with
      st := 3#4, req := 0x22C#11, reqV := true, trace := s.trace ++ [{ req := 0x22C#11, rsp := none }] }) ∧
    (s.st = 3#4 → status = s.cfg.expDataWAck → Machine.exec (.seqStep3 (rdata ++ status)) s = .next { s with
      st := 4#4, req := 0x206#11, reqV := true, trace := s.trace ++ [{ req := 0x206#11, rsp := none }] }) ∧
    (s.st = 4#4 → status = s.cfg.expDataWAck → Machine.exec (.seqStep4 (rdata ++ status)) s = .next { s with
      st := 5#4, req := 0x100#11, reqV := true, trace := s.trace ++ [{ req := 0x100#11, rsp := none }] }) ∧
    (s.st = 5#4 → status = s.cfg.expStart → Machine.exec (.seqStep5 (rdata ++ status)) s = .next { s with
      st := 6#4, req := 0x289#11, reqV := true, trace := s.trace ++ [{ req := 0x289#11, rsp := none }] }) ∧
    (s.st = 6#4 → status = s.cfg.expSlaRAck → Machine.exec (.seqStep6 (rdata ++ status)) s = .next { s with
      st := 7#4, req := 0x300#11, reqV := true, trace := s.trace ++ [{ req := 0x300#11, rsp := none }] })

/-- R100-R104: steps 7 to 11 on a match: rdata is stored in B[k] and the next request is issued; nothing else changes. -/
def Obligations.MatchedReadStepsStore : Prop :=
  ∀ (s : State) (rdata status : Byte), status = s.cfg.expDataRAck →
    (s.st = 7#4 → Machine.exec (.seqStep7 (rdata ++ status)) s = .next { s with
      buf := { s.buf with b7 := rdata }, st := 8#4
      req := 0x300#11, reqV := true, trace := s.trace ++ [{ req := 0x300#11, rsp := none }] }) ∧
    (s.st = 8#4 → Machine.exec (.seqStep8 (rdata ++ status)) s = .next { s with
      buf := { s.buf with b8 := rdata }, st := 9#4
      req := 0x300#11, reqV := true, trace := s.trace ++ [{ req := 0x300#11, rsp := none }] }) ∧
    (s.st = 9#4 → Machine.exec (.seqStep9 (rdata ++ status)) s = .next { s with
      buf := { s.buf with b9 := rdata }, st := 10#4
      req := 0x300#11, reqV := true, trace := s.trace ++ [{ req := 0x300#11, rsp := none }] }) ∧
    (s.st = 10#4 → Machine.exec (.seqStep10 (rdata ++ status)) s = .next { s with
      buf := { s.buf with b10 := rdata }, st := 11#4
      req := 0x300#11, reqV := true, trace := s.trace ++ [{ req := 0x300#11, rsp := none }] }) ∧
    (s.st = 11#4 → Machine.exec (.seqStep11 (rdata ++ status)) s = .next { s with
      buf := { s.buf with b11 := rdata }, st := 12#4
      req := 0x400#11, reqV := true, trace := s.trace ++ [{ req := 0x400#11, rsp := none }] })

/-- R105: step 12 on a match: rdata is stored in B[12], the success is latched and the closing stop issued. -/
def Obligations.MatchedStepTwelveLatches : Prop :=
  ∀ (s : State) (rdata status : Byte), s.st = 12#4 → status = s.cfg.expDataRNack →
    Machine.exec (.seqStep12 (rdata ++ status)) s = .next { s with
      buf := { s.buf with b12 := rdata }, pOk := true, pStep := 12#4, pStatus := status, st := 13#4
      req := 0x500#11, reqV := true, trace := s.trace ++ [{ req := 0x500#11, rsp := none }] }

/-- R92, R107: a mismatch at any step where the policy asks for a stop: the record is latched, STOP issued, ST is CLOSE;
nothing else changes, so the outcome is not yet published and no byte is captured. -/
def Obligations.MismatchWithStopEntersClose : Prop :=
  ∀ (s : State) (k : TransactionStep) (rdata status : Byte), s.st = stepNum k → status ≠ expected s.cfg k →
    stopAfterFail s.cfg.stopPolicy k = true →
    Machine.exec (rowInstr k (rdata ++ status)) s = .next { s with
      pOk := false, pStep := stepNum k, pStatus := status, st := 13#4
      req := 0x500#11, reqV := true, trace := s.trace ++ [{ req := 0x500#11, rsp := none }] }

/-- R92, R107, R109: a mismatch where the policy asks for no stop: the failure is published in the same event, ST is IDLE and
nothing is issued. -/
def Obligations.MismatchWithoutStopFinishes : Prop :=
  ∀ (s : State) (k : TransactionStep) (rdata status : Byte), s.st = stepNum k → status ≠ expected s.cfg k →
    stopAfterFail s.cfg.stopPolicy k = false →
    Machine.exec (rowInstr k (rdata ++ status)) s = .next { s with
      outcome := 2#2, crcBad := 0b00#2, st := 0#4
      err := { kind := kindOf k, step := stepNum k, status := status } }

/-- R110, R111, R112: CLOSE completion. -/
def Obligations.CloseCompletionPublishes : Prop :=
  ∀ (s : State) (rsp : RspWord), s.st = 13#4 →
    (s.pOk = true → crc8 s.buf.b7 s.buf.b8 = s.buf.b9 → crc8 s.buf.b10 s.buf.b11 = s.buf.b12 →
      Machine.exec (.seqClose rsp) s = .next { s with
        outcome := 1#2, crcBad := 0b00#2, st := 0#4
        rawP := s.buf.b7 ++ s.buf.b8, rawS := s.buf.b10 ++ s.buf.b11 }) ∧
    (s.pOk = true → ¬ (crc8 s.buf.b7 s.buf.b8 = s.buf.b9 ∧ crc8 s.buf.b10 s.buf.b11 = s.buf.b12) →
      Machine.exec (.seqClose rsp) s = .next { s with
        outcome := 3#2, st := 0#4
        crcBad := (if crc8 s.buf.b10 s.buf.b11 = s.buf.b12 then 0#1 else 1#1) ++
          (if crc8 s.buf.b7 s.buf.b8 = s.buf.b9 then 0#1 else 1#1)
        err := { kind := 5#3, step := 13#4, status := s.pStatus } }) ∧
    (s.pOk = false → ∀ k : TransactionStep, s.pStep = stepNum k →
      Machine.exec (.seqClose rsp) s = .next { s with
        outcome := 2#2, crcBad := 0b00#2, st := 0#4
        err := { kind := kindOf k, step := stepNum k, status := s.pStatus } })

/-- Log entries 10 and 14, the model's choices: a row that ST does not select is refused; CLOSE with a record that names no
step (no rule leaves one, R24, R109) faults. -/
def Obligations.StepRowsStopOffTheirState : Prop :=
  (∀ (s : State) (k : TransactionStep) (rsp : RspWord), s.st ≠ stepNum k →
    Machine.exec (rowInstr k rsp) s = .refused .rowNotSelected) ∧
  (∀ (s : State) (rsp : RspWord), s.st ≠ 13#4 → Machine.exec (.seqClose rsp) s = .refused .rowNotSelected) ∧
  (∀ (s : State) (rsp : RspWord), s.st = 13#4 → s.pOk = false → (s.pStep = 0#4 ∨ 13 ≤ s.pStep.toNat) →
    Machine.exec (.seqClose rsp) s = .fault .badPendingStep)

/-- R119, R60, R79: the response fields SEQ does not read do not matter: rdata at steps 1 to 6 and at a failing read step;
both fields in CLOSE. -/
def Obligations.IgnoredResponseFields : Prop :=
  (∀ (s : State) (k : TransactionStep) (status r r' : Byte), (stepNum k).toNat ≤ 6 →
    Machine.exec (rowInstr k (r ++ status)) s = Machine.exec (rowInstr k (r' ++ status)) s) ∧
  (∀ (s : State) (k : TransactionStep) (status r r' : Byte), status ≠ expected s.cfg k →
    Machine.exec (rowInstr k (r ++ status)) s = Machine.exec (rowInstr k (r' ++ status)) s) ∧
  (∀ (s : State) (rsp rsp' : RspWord), Machine.exec (.seqClose rsp) s = Machine.exec (.seqClose rsp') s)

/-! ## One step -/

/-- A step runs the decoded host operation: every admitted access decodes, and the step is exec of it on the state with the
event taken off (R63, R64, R20). VALIDATE is two accesses and so two steps (R70, R20); where no event stands between them, the
two are exec of it (log entry 11). -/
def Obligations.StepRunsHostOperation : Prop :=
  ∀ (s : State) (rest : List Event), foundFault s = none →
    (∀ a : HostAccess, s.events = .host a :: rest → a.refusal = none →
      ∃ i, decode (.hostAcc a.descriptor a.data) = .ok i ∧ Machine.step s = Machine.exec i { s with events := rest }) ∧
    (∀ h l c : Byte, s.events = (validateLines h l c).map lineEvent ++ rest →
      decode (.crcIn (0#8 ++ h ++ l ++ c)) = .ok (.validate h l c) ∧
      Sys2Proof.core.run 2 s = Machine.exec (.validate h l c) { s with events := rest })

/-- A step on a BUS event runs the outstanding request's operation and then, in the same event, the step-ROM row that ST
selects (R72, R20); in IDLE SEQ has no reaction (log entry 9). The request is one R59 lets stand: WRITE, or DATA 0 (of others,
StepWithoutAnEnabledEvent). -/
def Obligations.StepRunsBusResponse : Prop :=
  ∀ (s t : State) (rest : List Event) (rsp : RspWord) (i : Instr), foundFault s = none →
    s.events = .bus rsp :: rest → s.reqV = true → decode (.blReq s.req rsp) = .ok i →
    (s.req.extractLsb' 8 3 = 2#3 ∨ s.req.extractLsb' 0 8 = 0x00#8) →
    Machine.exec i { s with events := rest } = .next t →
    (t.st = 0#4 → Machine.step s = .next t) ∧
    (∀ j, decode (.stepRom t.st rsp) = .ok j → Machine.step s = Machine.exec j t)

/-- R72, U16: the BUS agent has no step with no request outstanding: the model refuses the event (log entry 10). U7, U9: it
faults on the reserved op code, and on DATA without WRITE (log entry 8). R148, R155, U3: with no event left the machine is
stuck, which the model says by the fault noEvent (log entries 2, 4). -/
def Obligations.StepWithoutAnEnabledEvent : Prop :=
  (∀ s : State, s.events = [] → Machine.step s = .fault .noEvent) ∧
  (∀ (s : State) (rest : List Event) (rsp : RspWord), foundFault s = none → s.events = .bus rsp :: rest →
    (s.reqV = false → Machine.step s = .refused .noRequest) ∧
    (s.reqV = true → s.req.extractLsb' 8 3 = 7#3 → Machine.step s = .fault .reservedRequest) ∧
    (s.reqV = true → s.req.extractLsb' 8 3 ≠ 7#3 → s.req.extractLsb' 8 3 ≠ 2#3 → s.req.extractLsb' 0 8 ≠ 0x00#8 →
      Machine.step s = .fault .dataWithoutWrite))

/-- R21, R30, R31, U6, U10: any event but RESET, in a state that no rule produces, is a fault (log entry 13). -/
def Obligations.StepFaultsOnUnreachableState : Prop :=
  ∀ (s : State) (e : Event) (rest : List Event), s.events = e :: rest → e ≠ .reset →
    (14 ≤ s.st.toNat → Machine.step s = .fault .unreachableState) ∧
    (s.st.toNat < 14 → (6 ≤ s.err.kind.toNat ∨ 14 ≤ s.err.step.toNat) → Machine.step s = .fault .unwrittenErr)

/-- R149, R41: RESET in any state, also while busy: every element at its reset value, B six fresh free values (R41 leaves B
open; log entry 5), nothing issued. -/
def Obligations.ResetEventSetsResetValues : Prop :=
  ∀ (s : State) (rest : List Event), s.events = .reset :: rest →
    Machine.step s = .next {
      st := 0#4
      buf := {
        b7 := Config.freeByte s.draws, b8 := Config.freeByte (s.draws + 1), b9 := Config.freeByte (s.draws + 2)
        b10 := Config.freeByte (s.draws + 3), b11 := Config.freeByte (s.draws + 4), b12 := Config.freeByte (s.draws + 5) }
      pOk := false, pStep := 0#4, pStatus := 0x00#8, reqV := false, req := 0x000#11
      outcome := 0#2, crcBad := 0b00#2, rawP := 0x0000#16, rawS := 0x0000#16
      err := { kind := 0#3, step := 0#4, status := 0x00#8 }
      crcIn := { high := 0x00#8, low := 0x00#8, chk := 0x00#8 }
      trace := [], cfg := s.cfg, events := rest, hostData := s.hostData, draws := s.draws + 6 }

/-- R41, R151: what reset leaves, field by field and as register words; B is left open by the spec. -/
def Obligations.ResetLeavesTheSpecsValues : Prop :=
  State.reset.st = 0#4 ∧ State.reset.pOk = false ∧ State.reset.pStep = 0#4 ∧ State.reset.pStatus = 0x00#8 ∧
  State.reset.reqV = false ∧ State.reset.req = 0x000#11 ∧ State.reset.outcome = 0#2 ∧ State.reset.crcBad = 0b00#2 ∧
  State.reset.rawP = 0x0000#16 ∧ State.reset.rawS = 0x0000#16 ∧ State.reset.trace = [] ∧
  statusWord State.reset = 0x00000000#32 ∧ errWord State.reset.err = 0x00000000#32 ∧
  crcInWord State.reset.crcIn = 0x00000000#32 ∧ crcOutWord State.reset.crcIn = 0x00000081#32

/-- The invariant holds right after reset (R41, R116). -/
def Obligations.InvariantAtReset : Prop := State.reset.Inv

/-- R21, R25, R27, R59, R116: every step keeps the invariant. -/
def Obligations.InvariantKeptByEveryStep : Prop :=
  ∀ s t : State, s.Inv → Machine.step s = .next t → t.Inv

/-- R134, R135: from a state with the invariant, every event that the environment may give leads to a next state: no failure
of a transaction is fatal. -/
def Obligations.AllowedEventsProceed : Prop :=
  ∀ (s : State) (e : Event) (rest : List Event), s.Inv → s.events = e :: rest → allowed s e = true →
    ∃ t, Machine.step s = .next t ∧ t.events = rest

/-- R113, R155: no event but a BUS response or RESET moves a busy sequencer, its request or its latches, or publishes an
outcome; reads and CRC_IN writes go on. -/
def Obligations.OnlyResponseOrResetMovesBusySequencer : Prop :=
  ∀ (s t : State) (e : Event) (rest : List Event), s.events = e :: rest → s.st ≠ 0#4 → Machine.step s = .next t →
    (∃ rsp, e = .bus rsp ∧ s.reqV = true) ∨ e = .reset ∨
    t = { s with events := rest, crcIn := t.crcIn, hostData := t.hostData }

/-- R53, R159: once BUSY = 0, the outcome registers stay constant in every event but an accepted GO and RESET; a BUS event
does not exist there when the invariant holds. -/
def Obligations.OutcomeStableWhileIdle : Prop :=
  ∀ (s t : State) (e : Event) (rest : List Event), s.Inv → s.events = e :: rest → s.st = 0#4 →
    Machine.step s = .next t → e ≠ .reset → t.st = 0#4 →
    t.outcome = s.outcome ∧ t.crcBad = s.crcBad ∧ t.rawP = s.rawP ∧ t.rawS = s.rawS ∧ t.err = s.err ∧ t.trace = s.trace

/-- R28, R111, R133: RAW changes only at RESET or in the finish event of a success, to the assembled bytes of two valid
triples. -/
def Obligations.RawWrittenOnlyBySuccess : Prop :=
  ∀ (s t : State) (e : Event) (rest : List Event), s.events = e :: rest → Machine.step s = .next t → e ≠ .reset →
    (t.rawP ≠ s.rawP ∨ t.rawS ≠ s.rawS) →
    s.st = 13#4 ∧ s.pOk = true ∧ t.st = 0#4 ∧ t.outcome = 1#2 ∧
    validate s.buf.b7 s.buf.b8 s.buf.b9 = true ∧ validate s.buf.b10 s.buf.b11 s.buf.b12 = true ∧
    t.rawP = s.buf.b7 ++ s.buf.b8 ∧ t.rawS = s.buf.b10 ++ s.buf.b11

/-- R29, R107, R109, R110, R112: ERR changes only at RESET or at the end of a failed transaction, whose outcome is published
with it, and it holds the failing step with its class and its status: the event's own where no stop follows, the latched one at
the end of CLOSE. -/
def Obligations.ErrWrittenOnlyByFailure : Prop :=
  ∀ (s t : State) (e : Event) (rest : List Event), s.events = e :: rest → Machine.step s = .next t → e ≠ .reset →
    t.err ≠ s.err →
    s.st ≠ 0#4 ∧ t.st = 0#4 ∧ t.rawP = s.rawP ∧ t.rawS = s.rawS ∧
    ((∃ (rdata status : Byte) (k : TransactionStep), e = .bus (rdata ++ status) ∧ s.st = stepNum k ∧ status ≠ expected s.cfg k ∧
        stopAfterFail s.cfg.stopPolicy k = false ∧ t.outcome = 2#2 ∧ t.crcBad = 0b00#2 ∧
        t.err = { kind := kindOf k, step := stepNum k, status := status }) ∨
      (s.st = 13#4 ∧ s.pOk = false ∧ t.outcome = 2#2 ∧ t.crcBad = 0b00#2 ∧
        ∃ k : TransactionStep, s.pStep = stepNum k ∧
          t.err = { kind := kindOf k, step := stepNum k, status := s.pStatus }) ∨
      (s.st = 13#4 ∧ s.pOk = true ∧ t.outcome = 3#2 ∧ t.crcBad ≠ 0b00#2 ∧
        t.err = { kind := 5#3, step := 13#4, status := s.pStatus }))

/-- R23, R93: B changes only at RESET or at a read step whose status matches, and then in the one element of that step. -/
def Obligations.BufferWrittenOnlyByMatchingRead : Prop :=
  ∀ (s t : State) (e : Event) (rest : List Event), s.events = e :: rest → Machine.step s = .next t → e ≠ .reset →
    t.buf ≠ s.buf →
    ∃ rdata status k, e = .bus (rdata ++ status) ∧ s.st = stepNum k ∧ 7 ≤ (stepNum k).toNat ∧
      status = expected s.cfg k ∧ t.buf = storeByte k rdata s.buf

/-- R32, R89, R127: only RESET or a host write at offset 0x14 changes CRC_IN, to the written fields; SEQ never does. -/
def Obligations.CrcInWrittenOnlyByHost : Prop :=
  ∀ (s t : State) (e : Event) (rest : List Event), s.events = e :: rest → Machine.step s = .next t →
    t.crcIn ≠ s.crcIn →
    e = .reset ∨
    ∃ a : HostAccess, e = .host a ∧ a.isWrite = true ∧ a.off = 0x14 ∧
      t.crcIn = { high := a.data.extractLsb' 16 8, low := a.data.extractLsb' 8 8, chk := a.data.extractLsb' 0 8 } ∧
      t.st = s.st ∧ t.outcome = s.outcome

/-- R40: no step changes the parameters; each step takes exactly one event. -/
def Obligations.ParametersNeverChange : Prop :=
  ∀ (s t : State), Machine.step s = .next t → t.cfg = s.cfg ∧ ∃ e, s.events = e :: t.events

/-- R54(b), R71, R114: SEQ issues at most one request in an event, appends it to TRACE, and only a step's own words and STOP
are ever issued; no earlier request is removed or changed but by RESET, and none is put on the port without its entry. -/
def Obligations.TraceGrowsByOneRequest : Prop :=
  ∀ (s t : State) (e : Event) (rest : List Event), s.events = e :: rest → Machine.step s = .next t → e ≠ .reset →
    (t.trace.map Exchange.req = s.trace.map Exchange.req ∧ t.req = s.req ∧ (t.reqV = true → s.reqV = true)) ∨
    ∃ q ∈ portWords, t.trace.map Exchange.req = s.trace.map Exchange.req ++ [q] ∧ t.req = q ∧ t.reqV = true

/-! ## Whole transactions -/

/-- R118, R111, R161: a GO in IDLE, twelve matching responses whose two triples validate, and the STOP response: fourteen
events after which OUTCOME is OK, RAW is the big-endian assembly, ERR is unchanged and TRACE has grown by the thirteen
requests. The policy plays no part. -/
def Obligations.SuccessfulTransaction : Prop :=
  ∀ (s : State) (r : TransactionStep → RspWord) (rstop : RspWord) (rest : List Event),
    foundFault s = none → s.st = 0#4 →
    s.events = lineEvent goLine :: (allSteps.map (fun k => Event.bus (r k)) ++ Event.bus rstop :: rest) →
    (∀ k, rspStatus (r k) = expected s.cfg k) →
    validate (rspRdata (r .s7)) (rspRdata (r .s8)) (rspRdata (r .s9)) = true →
    validate (rspRdata (r .s10)) (rspRdata (r .s11)) (rspRdata (r .s12)) = true →
    ∃ t : State, Sys2Proof.core.run 14 s = .next t ∧ t.st = 0#4 ∧ t.reqV = false ∧ t.outcome = 1#2 ∧ t.crcBad = 0b00#2 ∧
      t.rawP = rspRdata (r .s7) ++ rspRdata (r .s8) ∧ t.rawS = rspRdata (r .s10) ++ rspRdata (r .s11) ∧
      t.err = s.err ∧ t.crcIn = s.crcIn ∧ t.events = rest ∧
      t.trace = s.trace ++ allSteps.map (fun k => { req := romReq k, rsp := some (r k) }) ++
        [{ req := 0x500#11, rsp := some rstop }]

/-- R112, R118: the same events with a triple that does not validate end in CRC_FAIL, RAW untouched, and say which triple. -/
def Obligations.ChecksumFailureTransaction : Prop :=
  ∀ (s : State) (r : TransactionStep → RspWord) (rstop : RspWord) (rest : List Event),
    foundFault s = none → s.st = 0#4 →
    s.events = lineEvent goLine :: (allSteps.map (fun k => Event.bus (r k)) ++ Event.bus rstop :: rest) →
    (∀ k, rspStatus (r k) = expected s.cfg k) →
    (validate (rspRdata (r .s7)) (rspRdata (r .s8)) (rspRdata (r .s9)) &&
      validate (rspRdata (r .s10)) (rspRdata (r .s11)) (rspRdata (r .s12))) = false →
    ∃ t : State, Sys2Proof.core.run 14 s = .next t ∧ t.st = 0#4 ∧ t.reqV = false ∧ t.outcome = 3#2 ∧
      (t.crcBad.getLsbD 0 = !validate (rspRdata (r .s7)) (rspRdata (r .s8)) (rspRdata (r .s9))) ∧
      (t.crcBad.getLsbD 1 = !validate (rspRdata (r .s10)) (rspRdata (r .s11)) (rspRdata (r .s12))) ∧
      t.err = { kind := 5#3, step := 13#4, status := s.cfg.expDataRNack } ∧
      t.rawP = s.rawP ∧ t.rawS = s.rawS ∧ t.crcIn = s.crcIn ∧ t.events = rest ∧
      t.trace = s.trace ++ allSteps.map (fun k => { req := romReq k, rsp := some (r k) }) ++
        [{ req := 0x500#11, rsp := some rstop }]

/-- R115, R118: fail-fast. When the responses of steps 1 to n match and step n + 1's does not, the transaction ends after
n + 2 events, or n + 3 with the closing stop, with ERR naming that step; the requests are those of steps 1 to n + 1 and the
stop, and nothing else. -/
def Obligations.FailFastTransaction : Prop :=
  ∀ (s : State) (n : Nat) (k : TransactionStep) (r : TransactionStep → RspWord) (rstop : RspWord) (rest : List Event),
    foundFault s = none → s.st = 0#4 → allSteps[n]? = some k →
    (∀ j ∈ allSteps.take n, rspStatus (r j) = expected s.cfg j) → rspStatus (r k) ≠ expected s.cfg k →
    s.events = lineEvent goLine :: ((allSteps.take (n + 1)).map (fun j => Event.bus (r j)) ++
      ((if stopAfterFail s.cfg.stopPolicy k then [Event.bus rstop] else []) ++ rest)) →
    ∃ t : State, Sys2Proof.core.run (n + (if stopAfterFail s.cfg.stopPolicy k then 3 else 2)) s = .next t ∧
      t.st = 0#4 ∧ t.reqV = false ∧ t.outcome = 2#2 ∧ t.crcBad = 0b00#2 ∧
      t.err = { kind := kindOf k, step := stepNum k, status := rspStatus (r k) } ∧
      t.rawP = s.rawP ∧ t.rawS = s.rawS ∧ t.crcIn = s.crcIn ∧ t.events = rest ∧
      t.trace = s.trace ++ (allSteps.take (n + 1)).map (fun j => { req := romReq j, rsp := some (r j) }) ++
        (if stopAfterFail s.cfg.stopPolicy k then [{ req := 0x500#11, rsp := some rstop }] else [])

/-- R155, R113: the hang. However many host events happen in a busy state, ST, BUSY, OUTCOME, the request and ERR stay. -/
def Obligations.HangLastsUntilResponseOrReset : Prop :=
  ∀ (n : Nat) (s t : State), s.st ≠ 0#4 → (∀ e ∈ s.events, onlyHost e = true) → Sys2Proof.core.run n s = .next t →
    t = { s with events := s.events.drop n, crcIn := t.crcIn, hostData := t.hostData } ∧ n ≤ s.events.length

/-- R161, R155: host events other than an accepted GO interleave anywhere and change nothing in a transaction's course: the
BUS answer that follows one does what it would have done at once, but for CRC_IN and what the HOST has read. -/
def Obligations.HostEventsInterleaveFreely : Prop :=
  ∀ (s t u : State) (e : Event) (rsp : RspWord) (rest : List Event), s.st ≠ 0#4 → onlyHost e = true →
    s.events = e :: .bus rsp :: rest → Machine.step s = .next t → Machine.step t = .next u →
    ∃ v, Machine.step { s with events := .bus rsp :: rest } = .next v ∧
      u = { v with crcIn := t.crcIn, hostData := t.hostData }

/-! ## The host's contract -/

/-- R70, R155: WAITIDLE is over only when a poll has read BUSY = 0, and its value is that STATUS word; in IDLE its first poll
ends it; and in a hang it is never over, however many polls are made and wherever other hosts' accesses fall (log entry 22). -/
def Obligations.WaitIdleEndsExactlyWhenIdle : Prop :=
  (∀ (gaps : List Nat) (s t : State) (v : Word), waitIdle gaps s = .done v t →
    t.st = 0#4 ∧ v = statusWord t ∧ v.getLsbD 0 = false) ∧
  (∀ (gaps : List Nat) (s : State), foundFault s = none → s.st = 0#4 →
    waitIdle (0 :: gaps) s = .done (statusWord s) { s with hostData := some (statusWord s) }) ∧
  (∀ (gaps : List Nat) (s : State), foundFault s = none → s.st ≠ 0#4 →
    (∀ e ∈ s.events, onlyHost e = true ∧ allowed s e = true) →
    ∃ t, waitIdle gaps s = .waiting t ∧ t.st = s.st ∧ t.outcome = s.outcome ∧ t.reqV = s.reqV)

/-- R131, R134: the protocol begins only in IDLE; and where it is over, with nothing between its last poll and its reads, BUSY
is 0 and what it reports is the outcome of the machine as it stands: the RawReading only if OUTCOME = OK (log entry 26). -/
def Obligations.ProtocolReportsTheOutcome : Prop :=
  (∀ (gaps : List Nat) (g g' : Nat) (s : State), s.st ≠ 0#4 → protocol gaps g g' s = .notIssued s) ∧
  (∀ (gaps : List Nat) (s t : State) (report : Report), protocol gaps 0 0 s = .done report t →
    t.st = 0#4 ∧
    report = collect (statusWord t) (t.rawP.setWidth 32) (t.rawS.setWidth 32) (errWord t.err) ∧
    (∀ r, report = .reading r ↔ t.outcome = 1#2 ∧ r = { primaryValue := t.rawP, secondaryValue := t.rawS }))

/-- R133, U18: using RAW as a reading while OUTCOME is not OK is a host fault; with OUTCOME = OK it is the RawReading. The block
itself reads back the stale value, whatever OUTCOME is (log entry 26). -/
def Obligations.StaleRawIsAHostFault : Prop :=
  ∀ (g : Nat) (s : State),
    (s.outcome ≠ 1#2 → useRaw g s = .fault .staleRaw) ∧
    (foundFault s = none → s.outcome = 1#2 →
      useRaw 0 s = .done { primaryValue := s.rawP, secondaryValue := s.rawS } { s with hostData := some (s.rawS.setWidth 32) }) ∧
    (foundFault s = none → hostRead .rawP s = .done (s.rawP.setWidth 32) { s with hostData := some (s.rawP.setWidth 32) })

/-- R26, R131, R133: what the host decodes from the words it reads is the outcome of the latest transaction, and a RawReading
exactly when OUTCOME = OK. R131 has no case for OUTCOME = NONE (0, R26): that it is noResult there is the model's choice (log
entry 26). -/
def Obligations.CollectReportsTheOutcome : Prop :=
  ∀ s : State,
    let report := collect (statusWord s) (s.rawP.setWidth 32) (s.rawS.setWidth 32) (errWord s.err)
    (s.outcome = 0#2 → report = .noResult) ∧
    (s.outcome = 1#2 → report = .reading { primaryValue := s.rawP, secondaryValue := s.rawS }) ∧
    (s.outcome = 2#2 → report = .busFail s.err.kind s.err.step s.err.status) ∧
    (s.outcome = 3#2 → report = .crcFail (s.crcBad.getLsbD 0) (s.crcBad.getLsbD 1) s.err.status) ∧
    (∀ v, rawReading s = some v ↔ report = .reading v)

/-- R132: the conversion's end values and range, exactly. -/
def Obligations.PhysicalValuesInRange : Prop :=
  primaryPhysical 0x0000#16 = -49 ∧ primaryPhysical 0xFFFF#16 = 266 ∧
  secondaryPhysical 0x0000#16 = 0 ∧ secondaryPhysical 0xFFFF#16 = 100 ∧
  (∀ raw : Raw, -49 ≤ primaryPhysical raw ∧ primaryPhysical raw ≤ 266 ∧
    0 ≤ secondaryPhysical raw ∧ secondaryPhysical raw ≤ 100) ∧
  (∀ a b : Raw, primaryPhysical a = primaryPhysical b → a = b)
end

