-- ==== Sys2Proof/Laws/State.lean ====
section
/-! SUPPORT. Each field of the state after each named update, true by definition. -/

namespace Sys2Proof.Machine

variable (s : State)

/-! ## State.issue -/

@[simp] theorem State.issue_st (op : BusOp) (d : Byte) : (s.issue op d).st = s.st := rfl
@[simp] theorem State.issue_buf (op : BusOp) (d : Byte) : (s.issue op d).buf = s.buf := rfl
@[simp] theorem State.issue_pOk (op : BusOp) (d : Byte) : (s.issue op d).pOk = s.pOk := rfl
@[simp] theorem State.issue_pStep (op : BusOp) (d : Byte) : (s.issue op d).pStep = s.pStep := rfl
@[simp] theorem State.issue_pStatus (op : BusOp) (d : Byte) : (s.issue op d).pStatus = s.pStatus := rfl
@[simp] theorem State.issue_reqV (op : BusOp) (d : Byte) : (s.issue op d).reqV = true := rfl
@[simp] theorem State.issue_req (op : BusOp) (d : Byte) : (s.issue op d).req = reqWord op d := rfl
@[simp] theorem State.issue_outcome (op : BusOp) (d : Byte) : (s.issue op d).outcome = s.outcome := rfl
@[simp] theorem State.issue_crcBad (op : BusOp) (d : Byte) : (s.issue op d).crcBad = s.crcBad := rfl
@[simp] theorem State.issue_rawP (op : BusOp) (d : Byte) : (s.issue op d).rawP = s.rawP := rfl
@[simp] theorem State.issue_rawS (op : BusOp) (d : Byte) : (s.issue op d).rawS = s.rawS := rfl
@[simp] theorem State.issue_err (op : BusOp) (d : Byte) : (s.issue op d).err = s.err := rfl
@[simp] theorem State.issue_crcIn (op : BusOp) (d : Byte) : (s.issue op d).crcIn = s.crcIn := rfl
@[simp] theorem State.issue_trace (op : BusOp) (d : Byte) : (s.issue op d).trace = s.trace ++ [{ req := reqWord op d, rsp := none }] := rfl
@[simp] theorem State.issue_cfg (op : BusOp) (d : Byte) : (s.issue op d).cfg = s.cfg := rfl
@[simp] theorem State.issue_events (op : BusOp) (d : Byte) : (s.issue op d).events = s.events := rfl
@[simp] theorem State.issue_hostData (op : BusOp) (d : Byte) : (s.issue op d).hostData = s.hostData := rfl
@[simp] theorem State.issue_draws (op : BusOp) (d : Byte) : (s.issue op d).draws = s.draws := rfl

/-! ## State.answer -/

@[simp] theorem State.answer_st (rsp : RspWord) : (s.answer rsp).st = s.st := rfl
@[simp] theorem State.answer_buf (rsp : RspWord) : (s.answer rsp).buf = s.buf := rfl
@[simp] theorem State.answer_pOk (rsp : RspWord) : (s.answer rsp).pOk = s.pOk := rfl
@[simp] theorem State.answer_pStep (rsp : RspWord) : (s.answer rsp).pStep = s.pStep := rfl
@[simp] theorem State.answer_pStatus (rsp : RspWord) : (s.answer rsp).pStatus = s.pStatus := rfl
@[simp] theorem State.answer_reqV (rsp : RspWord) : (s.answer rsp).reqV = false := rfl
@[simp] theorem State.answer_req (rsp : RspWord) : (s.answer rsp).req = s.req := rfl
@[simp] theorem State.answer_outcome (rsp : RspWord) : (s.answer rsp).outcome = s.outcome := rfl
@[simp] theorem State.answer_crcBad (rsp : RspWord) : (s.answer rsp).crcBad = s.crcBad := rfl
@[simp] theorem State.answer_rawP (rsp : RspWord) : (s.answer rsp).rawP = s.rawP := rfl
@[simp] theorem State.answer_rawS (rsp : RspWord) : (s.answer rsp).rawS = s.rawS := rfl
@[simp] theorem State.answer_err (rsp : RspWord) : (s.answer rsp).err = s.err := rfl
@[simp] theorem State.answer_crcIn (rsp : RspWord) : (s.answer rsp).crcIn = s.crcIn := rfl
@[simp] theorem State.answer_trace (rsp : RspWord) : (s.answer rsp).trace = answerLast s.trace rsp := rfl
@[simp] theorem State.answer_cfg (rsp : RspWord) : (s.answer rsp).cfg = s.cfg := rfl
@[simp] theorem State.answer_events (rsp : RspWord) : (s.answer rsp).events = s.events := rfl
@[simp] theorem State.answer_hostData (rsp : RspWord) : (s.answer rsp).hostData = s.hostData := rfl
@[simp] theorem State.answer_draws (rsp : RspWord) : (s.answer rsp).draws = s.draws := rfl

/-! ## State.setSt -/

@[simp] theorem State.setSt_st (v : BitVec 4) : (s.setSt v).st = v := rfl
@[simp] theorem State.setSt_buf (v : BitVec 4) : (s.setSt v).buf = s.buf := rfl
@[simp] theorem State.setSt_pOk (v : BitVec 4) : (s.setSt v).pOk = s.pOk := rfl
@[simp] theorem State.setSt_pStep (v : BitVec 4) : (s.setSt v).pStep = s.pStep := rfl
@[simp] theorem State.setSt_pStatus (v : BitVec 4) : (s.setSt v).pStatus = s.pStatus := rfl
@[simp] theorem State.setSt_reqV (v : BitVec 4) : (s.setSt v).reqV = s.reqV := rfl
@[simp] theorem State.setSt_req (v : BitVec 4) : (s.setSt v).req = s.req := rfl
@[simp] theorem State.setSt_outcome (v : BitVec 4) : (s.setSt v).outcome = s.outcome := rfl
@[simp] theorem State.setSt_crcBad (v : BitVec 4) : (s.setSt v).crcBad = s.crcBad := rfl
@[simp] theorem State.setSt_rawP (v : BitVec 4) : (s.setSt v).rawP = s.rawP := rfl
@[simp] theorem State.setSt_rawS (v : BitVec 4) : (s.setSt v).rawS = s.rawS := rfl
@[simp] theorem State.setSt_err (v : BitVec 4) : (s.setSt v).err = s.err := rfl
@[simp] theorem State.setSt_crcIn (v : BitVec 4) : (s.setSt v).crcIn = s.crcIn := rfl
@[simp] theorem State.setSt_trace (v : BitVec 4) : (s.setSt v).trace = s.trace := rfl
@[simp] theorem State.setSt_cfg (v : BitVec 4) : (s.setSt v).cfg = s.cfg := rfl
@[simp] theorem State.setSt_events (v : BitVec 4) : (s.setSt v).events = s.events := rfl
@[simp] theorem State.setSt_hostData (v : BitVec 4) : (s.setSt v).hostData = s.hostData := rfl
@[simp] theorem State.setSt_draws (v : BitVec 4) : (s.setSt v).draws = s.draws := rfl

/-! ## State.capture -/

@[simp] theorem State.capture_st (k : TransactionStep) (v : Byte) : (s.capture k v).st = s.st := rfl
@[simp] theorem State.capture_buf (k : TransactionStep) (v : Byte) : (s.capture k v).buf = storeByte k v s.buf := rfl
@[simp] theorem State.capture_pOk (k : TransactionStep) (v : Byte) : (s.capture k v).pOk = s.pOk := rfl
@[simp] theorem State.capture_pStep (k : TransactionStep) (v : Byte) : (s.capture k v).pStep = s.pStep := rfl
@[simp] theorem State.capture_pStatus (k : TransactionStep) (v : Byte) : (s.capture k v).pStatus = s.pStatus := rfl
@[simp] theorem State.capture_reqV (k : TransactionStep) (v : Byte) : (s.capture k v).reqV = s.reqV := rfl
@[simp] theorem State.capture_req (k : TransactionStep) (v : Byte) : (s.capture k v).req = s.req := rfl
@[simp] theorem State.capture_outcome (k : TransactionStep) (v : Byte) : (s.capture k v).outcome = s.outcome := rfl
@[simp] theorem State.capture_crcBad (k : TransactionStep) (v : Byte) : (s.capture k v).crcBad = s.crcBad := rfl
@[simp] theorem State.capture_rawP (k : TransactionStep) (v : Byte) : (s.capture k v).rawP = s.rawP := rfl
@[simp] theorem State.capture_rawS (k : TransactionStep) (v : Byte) : (s.capture k v).rawS = s.rawS := rfl
@[simp] theorem State.capture_err (k : TransactionStep) (v : Byte) : (s.capture k v).err = s.err := rfl
@[simp] theorem State.capture_crcIn (k : TransactionStep) (v : Byte) : (s.capture k v).crcIn = s.crcIn := rfl
@[simp] theorem State.capture_trace (k : TransactionStep) (v : Byte) : (s.capture k v).trace = s.trace := rfl
@[simp] theorem State.capture_cfg (k : TransactionStep) (v : Byte) : (s.capture k v).cfg = s.cfg := rfl
@[simp] theorem State.capture_events (k : TransactionStep) (v : Byte) : (s.capture k v).events = s.events := rfl
@[simp] theorem State.capture_hostData (k : TransactionStep) (v : Byte) : (s.capture k v).hostData = s.hostData := rfl
@[simp] theorem State.capture_draws (k : TransactionStep) (v : Byte) : (s.capture k v).draws = s.draws := rfl

/-! ## State.latch -/

@[simp] theorem State.latch_st (ok : Bool) (k : TransactionStep) (v : Byte) : (s.latch ok k v).st = s.st := rfl
@[simp] theorem State.latch_buf (ok : Bool) (k : TransactionStep) (v : Byte) : (s.latch ok k v).buf = s.buf := rfl
@[simp] theorem State.latch_pOk (ok : Bool) (k : TransactionStep) (v : Byte) : (s.latch ok k v).pOk = ok := rfl
@[simp] theorem State.latch_pStep (ok : Bool) (k : TransactionStep) (v : Byte) : (s.latch ok k v).pStep = stepNum k := rfl
@[simp] theorem State.latch_pStatus (ok : Bool) (k : TransactionStep) (v : Byte) : (s.latch ok k v).pStatus = v := rfl
@[simp] theorem State.latch_reqV (ok : Bool) (k : TransactionStep) (v : Byte) : (s.latch ok k v).reqV = s.reqV := rfl
@[simp] theorem State.latch_req (ok : Bool) (k : TransactionStep) (v : Byte) : (s.latch ok k v).req = s.req := rfl
@[simp] theorem State.latch_outcome (ok : Bool) (k : TransactionStep) (v : Byte) : (s.latch ok k v).outcome = s.outcome := rfl
@[simp] theorem State.latch_crcBad (ok : Bool) (k : TransactionStep) (v : Byte) : (s.latch ok k v).crcBad = s.crcBad := rfl
@[simp] theorem State.latch_rawP (ok : Bool) (k : TransactionStep) (v : Byte) : (s.latch ok k v).rawP = s.rawP := rfl
@[simp] theorem State.latch_rawS (ok : Bool) (k : TransactionStep) (v : Byte) : (s.latch ok k v).rawS = s.rawS := rfl
@[simp] theorem State.latch_err (ok : Bool) (k : TransactionStep) (v : Byte) : (s.latch ok k v).err = s.err := rfl
@[simp] theorem State.latch_crcIn (ok : Bool) (k : TransactionStep) (v : Byte) : (s.latch ok k v).crcIn = s.crcIn := rfl
@[simp] theorem State.latch_trace (ok : Bool) (k : TransactionStep) (v : Byte) : (s.latch ok k v).trace = s.trace := rfl
@[simp] theorem State.latch_cfg (ok : Bool) (k : TransactionStep) (v : Byte) : (s.latch ok k v).cfg = s.cfg := rfl
@[simp] theorem State.latch_events (ok : Bool) (k : TransactionStep) (v : Byte) : (s.latch ok k v).events = s.events := rfl
@[simp] theorem State.latch_hostData (ok : Bool) (k : TransactionStep) (v : Byte) : (s.latch ok k v).hostData = s.hostData := rfl
@[simp] theorem State.latch_draws (ok : Bool) (k : TransactionStep) (v : Byte) : (s.latch ok k v).draws = s.draws := rfl

/-! ## State.toClose -/

@[simp] theorem State.toClose_st : (s.toClose).st = 13#4 := rfl
@[simp] theorem State.toClose_buf : (s.toClose).buf = s.buf := rfl
@[simp] theorem State.toClose_pOk : (s.toClose).pOk = s.pOk := rfl
@[simp] theorem State.toClose_pStep : (s.toClose).pStep = s.pStep := rfl
@[simp] theorem State.toClose_pStatus : (s.toClose).pStatus = s.pStatus := rfl
@[simp] theorem State.toClose_reqV : (s.toClose).reqV = true := rfl
@[simp] theorem State.toClose_req : (s.toClose).req = 0x500#11 := rfl
@[simp] theorem State.toClose_outcome : (s.toClose).outcome = s.outcome := rfl
@[simp] theorem State.toClose_crcBad : (s.toClose).crcBad = s.crcBad := rfl
@[simp] theorem State.toClose_rawP : (s.toClose).rawP = s.rawP := rfl
@[simp] theorem State.toClose_rawS : (s.toClose).rawS = s.rawS := rfl
@[simp] theorem State.toClose_err : (s.toClose).err = s.err := rfl
@[simp] theorem State.toClose_crcIn : (s.toClose).crcIn = s.crcIn := rfl
@[simp] theorem State.toClose_trace : (s.toClose).trace = s.trace ++ [{ req := 0x500#11, rsp := none }] := rfl
@[simp] theorem State.toClose_cfg : (s.toClose).cfg = s.cfg := rfl
@[simp] theorem State.toClose_events : (s.toClose).events = s.events := rfl
@[simp] theorem State.toClose_hostData : (s.toClose).hostData = s.hostData := rfl
@[simp] theorem State.toClose_draws : (s.toClose).draws = s.draws := rfl

/-! ## State.go -/

@[simp] theorem State.go_st : (s.go).st = 1#4 := rfl
@[simp] theorem State.go_buf : (s.go).buf = s.buf := rfl
@[simp] theorem State.go_pOk : (s.go).pOk = s.pOk := rfl
@[simp] theorem State.go_pStep : (s.go).pStep = s.pStep := rfl
@[simp] theorem State.go_pStatus : (s.go).pStatus = s.pStatus := rfl
@[simp] theorem State.go_reqV : (s.go).reqV = true := rfl
@[simp] theorem State.go_req : (s.go).req = 0x000#11 := rfl
@[simp] theorem State.go_outcome : (s.go).outcome = 0#2 := rfl
@[simp] theorem State.go_crcBad : (s.go).crcBad = 0#2 := rfl
@[simp] theorem State.go_rawP : (s.go).rawP = s.rawP := rfl
@[simp] theorem State.go_rawS : (s.go).rawS = s.rawS := rfl
@[simp] theorem State.go_err : (s.go).err = s.err := rfl
@[simp] theorem State.go_crcIn : (s.go).crcIn = s.crcIn := rfl
@[simp] theorem State.go_trace : (s.go).trace = s.trace ++ [{ req := 0x000#11, rsp := none }] := rfl
@[simp] theorem State.go_cfg : (s.go).cfg = s.cfg := rfl
@[simp] theorem State.go_events : (s.go).events = s.events := rfl
@[simp] theorem State.go_hostData : (s.go).hostData = s.hostData := rfl
@[simp] theorem State.go_draws : (s.go).draws = s.draws := rfl

/-! ## State.finishBusFail -/

@[simp] theorem State.finishBusFail_st (k : TransactionStep) (v : Byte) : (s.finishBusFail k v).st = 0#4 := rfl
@[simp] theorem State.finishBusFail_buf (k : TransactionStep) (v : Byte) : (s.finishBusFail k v).buf = s.buf := rfl
@[simp] theorem State.finishBusFail_pOk (k : TransactionStep) (v : Byte) : (s.finishBusFail k v).pOk = s.pOk := rfl
@[simp] theorem State.finishBusFail_pStep (k : TransactionStep) (v : Byte) : (s.finishBusFail k v).pStep = s.pStep := rfl
@[simp] theorem State.finishBusFail_pStatus (k : TransactionStep) (v : Byte) : (s.finishBusFail k v).pStatus = s.pStatus := rfl
@[simp] theorem State.finishBusFail_reqV (k : TransactionStep) (v : Byte) : (s.finishBusFail k v).reqV = s.reqV := rfl
@[simp] theorem State.finishBusFail_req (k : TransactionStep) (v : Byte) : (s.finishBusFail k v).req = s.req := rfl
@[simp] theorem State.finishBusFail_outcome (k : TransactionStep) (v : Byte) : (s.finishBusFail k v).outcome = 2#2 := rfl
@[simp] theorem State.finishBusFail_crcBad (k : TransactionStep) (v : Byte) : (s.finishBusFail k v).crcBad = 0#2 := rfl
@[simp] theorem State.finishBusFail_rawP (k : TransactionStep) (v : Byte) : (s.finishBusFail k v).rawP = s.rawP := rfl
@[simp] theorem State.finishBusFail_rawS (k : TransactionStep) (v : Byte) : (s.finishBusFail k v).rawS = s.rawS := rfl
@[simp] theorem State.finishBusFail_err (k : TransactionStep) (v : Byte) : (s.finishBusFail k v).err = { kind := kindOf k, step := stepNum k, status := v } := rfl
@[simp] theorem State.finishBusFail_crcIn (k : TransactionStep) (v : Byte) : (s.finishBusFail k v).crcIn = s.crcIn := rfl
@[simp] theorem State.finishBusFail_trace (k : TransactionStep) (v : Byte) : (s.finishBusFail k v).trace = s.trace := rfl
@[simp] theorem State.finishBusFail_cfg (k : TransactionStep) (v : Byte) : (s.finishBusFail k v).cfg = s.cfg := rfl
@[simp] theorem State.finishBusFail_events (k : TransactionStep) (v : Byte) : (s.finishBusFail k v).events = s.events := rfl
@[simp] theorem State.finishBusFail_hostData (k : TransactionStep) (v : Byte) : (s.finishBusFail k v).hostData = s.hostData := rfl
@[simp] theorem State.finishBusFail_draws (k : TransactionStep) (v : Byte) : (s.finishBusFail k v).draws = s.draws := rfl

/-! ## State.finishOk -/

@[simp] theorem State.finishOk_st (p q : Raw) : (s.finishOk p q).st = 0#4 := rfl
@[simp] theorem State.finishOk_buf (p q : Raw) : (s.finishOk p q).buf = s.buf := rfl
@[simp] theorem State.finishOk_pOk (p q : Raw) : (s.finishOk p q).pOk = s.pOk := rfl
@[simp] theorem State.finishOk_pStep (p q : Raw) : (s.finishOk p q).pStep = s.pStep := rfl
@[simp] theorem State.finishOk_pStatus (p q : Raw) : (s.finishOk p q).pStatus = s.pStatus := rfl
@[simp] theorem State.finishOk_reqV (p q : Raw) : (s.finishOk p q).reqV = s.reqV := rfl
@[simp] theorem State.finishOk_req (p q : Raw) : (s.finishOk p q).req = s.req := rfl
@[simp] theorem State.finishOk_outcome (p q : Raw) : (s.finishOk p q).outcome = 1#2 := rfl
@[simp] theorem State.finishOk_crcBad (p q : Raw) : (s.finishOk p q).crcBad = 0#2 := rfl
@[simp] theorem State.finishOk_rawP (p q : Raw) : (s.finishOk p q).rawP = p := rfl
@[simp] theorem State.finishOk_rawS (p q : Raw) : (s.finishOk p q).rawS = q := rfl
@[simp] theorem State.finishOk_err (p q : Raw) : (s.finishOk p q).err = s.err := rfl
@[simp] theorem State.finishOk_crcIn (p q : Raw) : (s.finishOk p q).crcIn = s.crcIn := rfl
@[simp] theorem State.finishOk_trace (p q : Raw) : (s.finishOk p q).trace = s.trace := rfl
@[simp] theorem State.finishOk_cfg (p q : Raw) : (s.finishOk p q).cfg = s.cfg := rfl
@[simp] theorem State.finishOk_events (p q : Raw) : (s.finishOk p q).events = s.events := rfl
@[simp] theorem State.finishOk_hostData (p q : Raw) : (s.finishOk p q).hostData = s.hostData := rfl
@[simp] theorem State.finishOk_draws (p q : Raw) : (s.finishOk p q).draws = s.draws := rfl

/-! ## State.finishCrc -/

@[simp] theorem State.finishCrc_st (bad : BitVec 2) (v : Byte) : (s.finishCrc bad v).st = 0#4 := rfl
@[simp] theorem State.finishCrc_buf (bad : BitVec 2) (v : Byte) : (s.finishCrc bad v).buf = s.buf := rfl
@[simp] theorem State.finishCrc_pOk (bad : BitVec 2) (v : Byte) : (s.finishCrc bad v).pOk = s.pOk := rfl
@[simp] theorem State.finishCrc_pStep (bad : BitVec 2) (v : Byte) : (s.finishCrc bad v).pStep = s.pStep := rfl
@[simp] theorem State.finishCrc_pStatus (bad : BitVec 2) (v : Byte) : (s.finishCrc bad v).pStatus = s.pStatus := rfl
@[simp] theorem State.finishCrc_reqV (bad : BitVec 2) (v : Byte) : (s.finishCrc bad v).reqV = s.reqV := rfl
@[simp] theorem State.finishCrc_req (bad : BitVec 2) (v : Byte) : (s.finishCrc bad v).req = s.req := rfl
@[simp] theorem State.finishCrc_outcome (bad : BitVec 2) (v : Byte) : (s.finishCrc bad v).outcome = 3#2 := rfl
@[simp] theorem State.finishCrc_crcBad (bad : BitVec 2) (v : Byte) : (s.finishCrc bad v).crcBad = bad := rfl
@[simp] theorem State.finishCrc_rawP (bad : BitVec 2) (v : Byte) : (s.finishCrc bad v).rawP = s.rawP := rfl
@[simp] theorem State.finishCrc_rawS (bad : BitVec 2) (v : Byte) : (s.finishCrc bad v).rawS = s.rawS := rfl
@[simp] theorem State.finishCrc_err (bad : BitVec 2) (v : Byte) : (s.finishCrc bad v).err = { kind := 5#3, step := 13#4, status := v } := rfl
@[simp] theorem State.finishCrc_crcIn (bad : BitVec 2) (v : Byte) : (s.finishCrc bad v).crcIn = s.crcIn := rfl
@[simp] theorem State.finishCrc_trace (bad : BitVec 2) (v : Byte) : (s.finishCrc bad v).trace = s.trace := rfl
@[simp] theorem State.finishCrc_cfg (bad : BitVec 2) (v : Byte) : (s.finishCrc bad v).cfg = s.cfg := rfl
@[simp] theorem State.finishCrc_events (bad : BitVec 2) (v : Byte) : (s.finishCrc bad v).events = s.events := rfl
@[simp] theorem State.finishCrc_hostData (bad : BitVec 2) (v : Byte) : (s.finishCrc bad v).hostData = s.hostData := rfl
@[simp] theorem State.finishCrc_draws (bad : BitVec 2) (v : Byte) : (s.finishCrc bad v).draws = s.draws := rfl

/-! ## State.deliver -/

@[simp] theorem State.deliver_st (w : Word) : (s.deliver w).st = s.st := rfl
@[simp] theorem State.deliver_buf (w : Word) : (s.deliver w).buf = s.buf := rfl
@[simp] theorem State.deliver_pOk (w : Word) : (s.deliver w).pOk = s.pOk := rfl
@[simp] theorem State.deliver_pStep (w : Word) : (s.deliver w).pStep = s.pStep := rfl
@[simp] theorem State.deliver_pStatus (w : Word) : (s.deliver w).pStatus = s.pStatus := rfl
@[simp] theorem State.deliver_reqV (w : Word) : (s.deliver w).reqV = s.reqV := rfl
@[simp] theorem State.deliver_req (w : Word) : (s.deliver w).req = s.req := rfl
@[simp] theorem State.deliver_outcome (w : Word) : (s.deliver w).outcome = s.outcome := rfl
@[simp] theorem State.deliver_crcBad (w : Word) : (s.deliver w).crcBad = s.crcBad := rfl
@[simp] theorem State.deliver_rawP (w : Word) : (s.deliver w).rawP = s.rawP := rfl
@[simp] theorem State.deliver_rawS (w : Word) : (s.deliver w).rawS = s.rawS := rfl
@[simp] theorem State.deliver_err (w : Word) : (s.deliver w).err = s.err := rfl
@[simp] theorem State.deliver_crcIn (w : Word) : (s.deliver w).crcIn = s.crcIn := rfl
@[simp] theorem State.deliver_trace (w : Word) : (s.deliver w).trace = s.trace := rfl
@[simp] theorem State.deliver_cfg (w : Word) : (s.deliver w).cfg = s.cfg := rfl
@[simp] theorem State.deliver_events (w : Word) : (s.deliver w).events = s.events := rfl
@[simp] theorem State.deliver_hostData (w : Word) : (s.deliver w).hostData = some w := rfl
@[simp] theorem State.deliver_draws (w : Word) : (s.deliver w).draws = s.draws := rfl

/-! ## State.setCrcIn -/

@[simp] theorem State.setCrcIn_st (c : CrcIn) : (s.setCrcIn c).st = s.st := rfl
@[simp] theorem State.setCrcIn_buf (c : CrcIn) : (s.setCrcIn c).buf = s.buf := rfl
@[simp] theorem State.setCrcIn_pOk (c : CrcIn) : (s.setCrcIn c).pOk = s.pOk := rfl
@[simp] theorem State.setCrcIn_pStep (c : CrcIn) : (s.setCrcIn c).pStep = s.pStep := rfl
@[simp] theorem State.setCrcIn_pStatus (c : CrcIn) : (s.setCrcIn c).pStatus = s.pStatus := rfl
@[simp] theorem State.setCrcIn_reqV (c : CrcIn) : (s.setCrcIn c).reqV = s.reqV := rfl
@[simp] theorem State.setCrcIn_req (c : CrcIn) : (s.setCrcIn c).req = s.req := rfl
@[simp] theorem State.setCrcIn_outcome (c : CrcIn) : (s.setCrcIn c).outcome = s.outcome := rfl
@[simp] theorem State.setCrcIn_crcBad (c : CrcIn) : (s.setCrcIn c).crcBad = s.crcBad := rfl
@[simp] theorem State.setCrcIn_rawP (c : CrcIn) : (s.setCrcIn c).rawP = s.rawP := rfl
@[simp] theorem State.setCrcIn_rawS (c : CrcIn) : (s.setCrcIn c).rawS = s.rawS := rfl
@[simp] theorem State.setCrcIn_err (c : CrcIn) : (s.setCrcIn c).err = s.err := rfl
@[simp] theorem State.setCrcIn_crcIn (c : CrcIn) : (s.setCrcIn c).crcIn = c := rfl
@[simp] theorem State.setCrcIn_trace (c : CrcIn) : (s.setCrcIn c).trace = s.trace := rfl
@[simp] theorem State.setCrcIn_cfg (c : CrcIn) : (s.setCrcIn c).cfg = s.cfg := rfl
@[simp] theorem State.setCrcIn_events (c : CrcIn) : (s.setCrcIn c).events = s.events := rfl
@[simp] theorem State.setCrcIn_hostData (c : CrcIn) : (s.setCrcIn c).hostData = s.hostData := rfl
@[simp] theorem State.setCrcIn_draws (c : CrcIn) : (s.setCrcIn c).draws = s.draws := rfl

/-! ## State.setEvents -/

@[simp] theorem State.setEvents_st (es : List Event) : (s.setEvents es).st = s.st := rfl
@[simp] theorem State.setEvents_buf (es : List Event) : (s.setEvents es).buf = s.buf := rfl
@[simp] theorem State.setEvents_pOk (es : List Event) : (s.setEvents es).pOk = s.pOk := rfl
@[simp] theorem State.setEvents_pStep (es : List Event) : (s.setEvents es).pStep = s.pStep := rfl
@[simp] theorem State.setEvents_pStatus (es : List Event) : (s.setEvents es).pStatus = s.pStatus := rfl
@[simp] theorem State.setEvents_reqV (es : List Event) : (s.setEvents es).reqV = s.reqV := rfl
@[simp] theorem State.setEvents_req (es : List Event) : (s.setEvents es).req = s.req := rfl
@[simp] theorem State.setEvents_outcome (es : List Event) : (s.setEvents es).outcome = s.outcome := rfl
@[simp] theorem State.setEvents_crcBad (es : List Event) : (s.setEvents es).crcBad = s.crcBad := rfl
@[simp] theorem State.setEvents_rawP (es : List Event) : (s.setEvents es).rawP = s.rawP := rfl
@[simp] theorem State.setEvents_rawS (es : List Event) : (s.setEvents es).rawS = s.rawS := rfl
@[simp] theorem State.setEvents_err (es : List Event) : (s.setEvents es).err = s.err := rfl
@[simp] theorem State.setEvents_crcIn (es : List Event) : (s.setEvents es).crcIn = s.crcIn := rfl
@[simp] theorem State.setEvents_trace (es : List Event) : (s.setEvents es).trace = s.trace := rfl
@[simp] theorem State.setEvents_cfg (es : List Event) : (s.setEvents es).cfg = s.cfg := rfl
@[simp] theorem State.setEvents_events (es : List Event) : (s.setEvents es).events = es := rfl
@[simp] theorem State.setEvents_hostData (es : List Event) : (s.setEvents es).hostData = s.hostData := rfl
@[simp] theorem State.setEvents_draws (es : List Event) : (s.setEvents es).draws = s.draws := rfl

/-! ## State.resetEvent -/

@[simp] theorem State.resetEvent_st : (s.resetEvent).st = 0#4 := rfl
@[simp] theorem State.resetEvent_buf : (s.resetEvent).buf = freeBuffer s.draws := rfl
@[simp] theorem State.resetEvent_pOk : (s.resetEvent).pOk = false := rfl
@[simp] theorem State.resetEvent_pStep : (s.resetEvent).pStep = 0#4 := rfl
@[simp] theorem State.resetEvent_pStatus : (s.resetEvent).pStatus = 0#8 := rfl
@[simp] theorem State.resetEvent_reqV : (s.resetEvent).reqV = false := rfl
@[simp] theorem State.resetEvent_req : (s.resetEvent).req = 0#11 := rfl
@[simp] theorem State.resetEvent_outcome : (s.resetEvent).outcome = 0#2 := rfl
@[simp] theorem State.resetEvent_crcBad : (s.resetEvent).crcBad = 0#2 := rfl
@[simp] theorem State.resetEvent_rawP : (s.resetEvent).rawP = 0#16 := rfl
@[simp] theorem State.resetEvent_rawS : (s.resetEvent).rawS = 0#16 := rfl
@[simp] theorem State.resetEvent_err : (s.resetEvent).err = { kind := 0#3, step := 0#4, status := 0#8 } := rfl
@[simp] theorem State.resetEvent_crcIn : (s.resetEvent).crcIn = { high := 0#8, low := 0#8, chk := 0#8 } := rfl
@[simp] theorem State.resetEvent_trace : (s.resetEvent).trace = [] := rfl
@[simp] theorem State.resetEvent_cfg : (s.resetEvent).cfg = s.cfg := rfl
@[simp] theorem State.resetEvent_events : (s.resetEvent).events = s.events := rfl
@[simp] theorem State.resetEvent_hostData : (s.resetEvent).hostData = s.hostData := rfl
@[simp] theorem State.resetEvent_draws : (s.resetEvent).draws = s.draws + 6 := rfl

end Sys2Proof.Machine
end

