-- ==== Sys2Proof/Laws/Ops.lean ====
section
/-! SUPPORT. One lemma per shared operation that says everything it can do, for proofs to cite. -/

namespace Sys2Proof.Machine

/-- The trace after an answer to its last request (R72). -/
@[simp] theorem answerLast_append (l : List Exchange) (e : Exchange) (rsp : RspWord) :
    answerLast (l ++ [e]) rsp = l ++ [{ e with rsp := some rsp }] := by
  induction l with
  | nil => rfl
  | cons a l ih =>
    cases l with
    | nil => rfl
    | cons b l => simpa [answerLast] using ih

@[simp] theorem answerLast_length (l : List Exchange) (rsp : RspWord) :
    (answerLast l rsp).length = l.length := by
  induction l using List.reverseRecOn with
  | nil => rfl
  | append_singleton l e => simp

/-- An answer changes no request word of the trace. -/
@[simp] theorem answerLast_map_req (l : List Exchange) (rsp : RspWord) :
    (answerLast l rsp).map Exchange.req = l.map Exchange.req := by
  induction l using List.reverseRecOn with
  | nil => rfl
  | append_singleton l e => simp

theorem stepOfNum_stepNum (k : TransactionStep) : stepOfNum (stepNum k) = some k := by
  cases k <;> rfl

theorem stepOfNum_all (n : BitVec 4) : (stepOfNum n).all (fun k => n == stepNum k) = true := by
  revert n; decide

theorem stepNum_of_stepOfNum {n : BitVec 4} {k : TransactionStep} (h : stepOfNum n = some k) : n = stepNum k := by
  simpa [h] using stepOfNum_all n

theorem stepNum_injective {j k : TransactionStep} (h : stepNum j = stepNum k) : j = k := by
  have := congrArg stepOfNum h
  simpa [stepOfNum_stepNum] using this

theorem stepNum_ne_zero (k : TransactionStep) : stepNum k ≠ 0#4 := by cases k <;> decide

theorem stepNum_ne_close (k : TransactionStep) : stepNum k ≠ 13#4 := by cases k <;> decide

theorem stepNum_le (k : TransactionStep) : (stepNum k).toNat ≤ 12 := by cases k <;> decide

theorem kindOf_le (k : TransactionStep) : (kindOf k).toNat ≤ 4 := by cases k <;> decide

/-- The failure exit has two ends: CLOSE with the record latched, or IDLE with it published (R107). -/
theorem failAt_cases (s : State) (k : TransactionStep) (v : Byte) :
    (stopAfterFail s.cfg.stopPolicy k = true ∧ s.failAt k v = (s.latch false k v).toClose) ∨
    (stopAfterFail s.cfg.stopPolicy k = false ∧ s.failAt k v = s.finishBusFail k v) := by
  unfold State.failAt
  cases stopAfterFail s.cfg.stopPolicy k <;> simp

/-- A matching response leads to the next step, or after step 12 to CLOSE (R92). -/
theorem advance_cases (s : State) (k : TransactionStep) (rsp : RspWord) :
    (∃ k', stepNext k = some k' ∧
      s.advance k rsp = ((s.capture k (rspRdata rsp)).setSt (stepNum k')).issue (romOp k') (romData k')) ∨
    (k = .s12 ∧ s.advance k rsp = ((s.capture .s12 (rspRdata rsp)).latch true .s12 (rspStatus rsp)).toClose) := by
  cases k <;> simp [State.advance, stepNext]

/-- Everything a response in STEP(k) can do (R92, R107). -/
theorem respondAt_cases (s : State) (k : TransactionStep) (rsp : RspWord) :
    (rspStatus rsp = expected s.cfg k ∧ s.respondAt k rsp = s.advance k rsp) ∨
    (rspStatus rsp ≠ expected s.cfg k ∧ s.respondAt k rsp = s.failAt k (rspStatus rsp)) := by
  unfold State.respondAt
  by_cases h : rspStatus rsp = expected s.cfg k <;> simp [h]

/-- CLOSE completion with P_OK = 1 ends in OK or CRC_FAIL (R110). -/
theorem closeValidated_cases (s : State) :
    (primaryOk s.buf = true ∧ secondaryOk s.buf = true ∧
      s.closeValidated = s.finishOk (assemble s.buf.b7 s.buf.b8) (assemble s.buf.b10 s.buf.b11)) ∨
    ((primaryOk s.buf = false ∨ secondaryOk s.buf = false) ∧
      s.closeValidated =
        s.finishCrc (bitOf (!secondaryOk s.buf) ++ bitOf (!primaryOk s.buf)) s.pStatus) := by
  unfold State.closeValidated
  cases primaryOk s.buf <;> cases secondaryOk s.buf <;> simp

theorem bitOf_append_ne_zero {a b : Bool} (h : a = false ∨ b = false) : bitOf (!b) ++ bitOf (!a) ≠ (0#2) := by
  rcases h with rfl | rfl
  · cases b <;> decide
  · cases a <;> decide

/-- A step-ROM row answers a next state exactly where ST selects it. -/
theorem seqRow_next {k : TransactionStep} {rsp : RspWord} {s t : State} (h : seqRow k rsp s = .next t) :
    s.st = stepNum k ∧ t = s.respondAt k rsp := by
  unfold seqRow at h
  split at h
  · exact ⟨‹_›, by injection h with h; exact h.symm⟩
  · cases h

/-- A bus-link meaning answers a next state exactly where its request is outstanding. -/
theorem answerReq_next {b : Bool} {rsp : RspWord} {s t : State} (h : answerReq b rsp s = .next t) :
    s.reqV = true ∧ b = true ∧ t = s.answer rsp := by
  unfold answerReq at h
  split at h
  · split at h
    · exact ⟨‹_›, ‹_›, by injection h with h; exact h.symm⟩
    · cases h
  · cases h

/-- The fields of an assembled response word (R60). -/
@[simp] theorem rspStatus_append (rdata status : Byte) : rspStatus (rdata ++ status) = status := by
  apply BitVec.eq_of_getLsbD_eq
  intro i hi
  simp only [rspStatus, BitVec.getLsbD_extractLsb', BitVec.getLsbD_append]
  interval_cases i <;> simp

@[simp] theorem rspRdata_append (rdata status : Byte) : rspRdata (rdata ++ status) = rdata := by
  apply BitVec.eq_of_getLsbD_eq
  intro i hi
  simp only [rspRdata, BitVec.getLsbD_extractLsb', BitVec.getLsbD_append]
  interval_cases i <;> simp

/-- Every response word is its two fields (R60). -/
theorem rsp_eq_append (rsp : RspWord) : rsp = rspRdata rsp ++ rspStatus rsp := by
  apply BitVec.eq_of_getLsbD_eq
  intro i hi
  simp only [rspRdata, rspStatus, BitVec.getLsbD_append, BitVec.getLsbD_extractLsb']
  interval_cases i <;> simp

/-- An access is admitted exactly when it is one aligned word of the window (R46). -/
theorem refusal_none_iff (a : HostAccess) :
    a.refusal = none ↔ 0 ≤ a.off ∧ a.off < 32 ∧ a.width = 4 ∧ a.off % 4 = 0 := by
  unfold HostAccess.refusal
  constructor
  · intro h
    split_ifs at h
    omega
  · rintro ⟨h1, h2, h3, h4⟩
    rw [if_neg (by omega), if_neg (by omega), if_neg (by omega)]

/-- The descriptor of an admitted access is admitted, and names its direction and its register (R63). -/
theorem descriptor_admitted {a : HostAccess} (hr : a.refusal = none) :
    admittedOff a.descriptor = true ∧ a.descriptor.getLsbD 8 = a.isWrite ∧
      accReg a.descriptor = BitVec.ofNat 3 (a.off.toNat / 4) := by
  obtain ⟨h1, h2, _, h4⟩ := (refusal_none_iff a).mp hr
  obtain ⟨n, hn, ho⟩ : ∃ n : Nat, n < 8 ∧ a.off = 4 * (n : Int) := ⟨(a.off / 4).toNat, by omega, by omega⟩
  simp only [HostAccess.descriptor, ho]
  cases a.isWrite <;> interval_cases n <;> decide

/-- A step-ROM row where ST selects it (R92). -/
theorem seqRow_selected {k : TransactionStep} {s : State} (rsp : RspWord) (h : s.st = stepNum k) :
    seqRow k rsp s = .next (s.respondAt k rsp) := by
  simp only [seqRow, if_pos h]

end Sys2Proof.Machine
end

