-- ==== Sys2Proof/Laws/Step.lean ====
section
/-! SUPPORT. What one event and one step can do, said once (inversion lemmas), and what makes a step complete. -/

namespace Sys2Proof.Machine

/-- The instruction read from the outstanding request answers it (R72). -/
theorem exec_of_decodeReq {s : State} {rsp : RspWord} {i : Instr} (hv : s.reqV = true)
    (hd : decodeReq s.req rsp = .ok i) : exec i s = .next (s.answer rsp) := by
  unfold decodeReq at hd
  repeat' split at hd
  all_goals first
    | (cases hd; done)
    | (injection hd with hd
       subst hd
       simp_all [exec, execStart, execRestart, execWrite, execReadAck, execReadNack, execStop, execStatus, answerReq,
         asksFor, BusOp.code])

/-- Every op code but the reserved one decodes (R58, R66). -/
theorem decodeReq_ok {req : ReqWord} (rsp : RspWord) (h : reqOp req ≠ 7#3) : ∃ i, decodeReq req rsp = .ok i := by
  unfold decodeReq
  have key : ∀ x : BitVec 3, x ≠ 7#3 → x = 0#3 ∨ x = 1#3 ∨ x = 2#3 ∨ x = 3#3 ∨ x = 4#3 ∨ x = 5#3 ∨ x = 6#3 := by decide
  rcases key _ h with h | h | h | h | h | h | h <;> simp [h]

/-- The response event is the BUS agent's answer and SEQ's reaction (R72). -/
theorem runBus_eq {s : State} (rsp : RspWord) (hv : s.reqV = true) (h : reqOp s.req ≠ 7#3)
    (hd : dataWithoutWrite s.req = false) : runBus rsp s = react rsp (s.answer rsp) := by
  obtain ⟨i, hi⟩ := decodeReq_ok rsp h
  simp [runBus, hv, decode, hi, hd, exec_of_decodeReq hv hi]

theorem react_idle {s : State} (rsp : RspWord) (h : s.st = 0#4) : react rsp s = .next s := by
  simp [react, h]

theorem react_step {s : State} (rsp : RspWord) {k : TransactionStep} (h : s.st = stepNum k) :
    react rsp s = .next (s.respondAt k rsp) := by
  cases k <;>
    simp [react, h, stepNum, decode, decodeRom, exec, seqRow, execSeqStep1, execSeqStep2, execSeqStep3, execSeqStep4,
      execSeqStep5, execSeqStep6, execSeqStep7, execSeqStep8, execSeqStep9, execSeqStep10, execSeqStep11, execSeqStep12]

theorem react_close {s : State} (rsp : RspWord) (h : s.st = 13#4) :
    react rsp s = if s.pOk then .next s.closeValidated else s.closeFailed := by
  simp [react, h, decode, decodeRom, exec, execSeqClose, stClose]

/-- The values of ST that await a response (R21). -/
theorem st_cases (v : BitVec 4) :
    v = 0#4 ∨ (∃ k : TransactionStep, v = stepNum k) ∨ v = 13#4 ∨ v = 14#4 ∨ v = 15#4 := by
  have key : ∀ v : BitVec 4, v = 0#4 ∨ (stepOfNum v).isSome = true ∨ v = 13#4 ∨ v = 14#4 ∨ v = 15#4 := by decide
  rcases key v with h | h | h
  · exact .inl h
  · obtain ⟨k, hk⟩ := Option.isSome_iff_exists.mp h
    exact .inr (.inl ⟨k, stepNum_of_stepOfNum hk⟩)
  · exact .inr (.inr h)

/-- Everything SEQ's reaction can do (R92, R110). -/
theorem react_next {s t : State} {rsp : RspWord} (h : react rsp s = .next t) :
    (s.st = 0#4 ∧ t = s) ∨
    (∃ k, s.st = stepNum k ∧ t = s.respondAt k rsp) ∨
    (s.st = 13#4 ∧ s.pOk = true ∧ t = s.closeValidated) ∨
    (s.st = 13#4 ∧ s.pOk = false ∧ ∃ k, s.pStep = stepNum k ∧ t = s.finishBusFail k s.pStatus) := by
  rcases st_cases s.st with h0 | ⟨k, hk⟩ | h13 | h14
  · rw [react_idle rsp h0] at h
    injection h with h
    exact .inl ⟨h0, h.symm⟩
  · rw [react_step rsp hk] at h
    injection h with h
    exact .inr (.inl ⟨k, hk, h.symm⟩)
  · rw [react_close rsp h13] at h
    cases hp : s.pOk with
    | true =>
      rw [hp] at h
      injection h with h
      exact .inr (.inr (.inl ⟨h13, rfl, h.symm⟩))
    | false =>
      rw [hp] at h
      simp only [Bool.false_eq_true, if_false, State.closeFailed] at h
      split at h
      · injection h with h
        exact .inr (.inr (.inr ⟨h13, rfl, _, stepNum_of_stepOfNum ‹_›, h.symm⟩))
      · cases h
  · rcases h14 with h14 | h14 <;> simp [react, h14, decode, decodeRom] at h

/-- A BUS event that answers a next state is the answer and a reaction. -/
theorem runBus_next {s t : State} {rsp : RspWord} (h : runBus rsp s = .next t) :
    s.reqV = true ∧ react rsp (s.answer rsp) = .next t := by
  unfold runBus at h
  split at h
  · rename_i hv
    refine ⟨hv, ?_⟩
    split at h
    · rename_i i hd
      split at h
      · cases h
      · rw [exec_of_decodeReq hv hd] at h
        exact h
    · cases h
  · cases h

/-- A host read changes only what the HOST has read (R51). -/
theorem exec_read (r : BitVec 3) (s : State) : ∃ w, exec (decodeRead r) s = .next { s with hostData := some w } := by
  unfold decodeRead
  repeat' split
  all_goals exact ⟨_, rfl⟩

/-- A host write that is no GO accepted in IDLE changes at most CRC_IN, and that only a write of CRC_IN (R52). -/
theorem exec_write (r : BitVec 3) (data : Word) (s : State) :
    (r = 0#3 ∧ goBit data = true ∧ s.st = 0#4 ∧ exec (decodeWrite r data) s = .next s.go) ∨
    ∃ c, exec (decodeWrite r data) s = .next { s with crcIn := c } ∧
      (c = s.crcIn ∨ r = 5#3 ∧ c = splitCrcIn data) := by
  unfold decodeWrite
  split
  · by_cases hg : goBit data = true ∧ s.st = 0#4
    · exact .inl ⟨‹_›, hg.1, hg.2, by simp [exec, execWrCtrl, hg]⟩
    · exact .inr ⟨s.crcIn, by simp only [exec, execWrCtrl, if_neg hg], .inl rfl⟩
  · right
    repeat' split
    all_goals first
      | exact ⟨_, rfl, .inr ⟨‹_›, rfl⟩⟩
      | exact ⟨_, rfl, .inl rfl⟩

/-- The register of an admitted access is its offset over 4 (R34, R63). -/
theorem accReg_eq {a : HostAccess} (hr : a.refusal = none) (r : Nat) (h8 : r < 8)
    (h : accReg a.descriptor = BitVec.ofNat 3 r) : a.off = 4 * (r : Int) := by
  obtain ⟨h1, h2, _, h4⟩ := (refusal_none_iff a).mp hr
  rw [(descriptor_admitted hr).2.2] at h
  have h' := congrArg BitVec.toNat h
  simp only [BitVec.toNat_ofNat] at h'
  omega

/-- Everything a host event can do: a GO accepted in IDLE, or a change of what the HOST has read, or of CRC_IN by a write of
CRC_IN. -/
theorem runHost_next {s t : State} {a : HostAccess} (h : runHost a s = .next t) :
    a.refusal = none ∧
    ((a.isWrite = true ∧ a.off = 0x00 ∧ goBit a.data = true ∧ s.st = 0#4 ∧ t = s.go) ∨
      (t = { s with crcIn := t.crcIn, hostData := t.hostData } ∧
        (t.crcIn ≠ s.crcIn → a.isWrite = true ∧ a.off = 0x14 ∧ t.crcIn = splitCrcIn a.data))) := by
  unfold runHost at h
  split at h
  · cases h
  · rename_i hr
    refine ⟨hr, ?_⟩
    obtain ⟨hd, hw, _⟩ := descriptor_admitted hr
    simp only [decode, decodeAcc, if_pos hd] at h
    by_cases hb : a.isWrite = true
    · rw [if_pos (hw.trans hb)] at h
      rcases exec_write (accReg a.descriptor) a.data s with ⟨h0, hg, hs, he⟩ | ⟨c, he, hc⟩
      · rw [he] at h; injection h with h
        exact .inl ⟨hb, by have := accReg_eq hr 0 (by decide) h0; omega, hg, hs, h.symm⟩
      · rw [he] at h; injection h with h
        subst h
        refine .inr ⟨rfl, fun hne => ?_⟩
        rcases hc with hc | ⟨h5, hc⟩
        · exact absurd hc hne
        · exact ⟨hb, by have := accReg_eq hr 5 (by decide) h5; omega, hc⟩
    · rw [if_neg (by rw [hw]; exact hb)] at h
      obtain ⟨w, he⟩ := exec_read (accReg a.descriptor) s
      rw [he] at h; injection h with h
      subst h
      exact .inr ⟨rfl, fun hne => absurd rfl hne⟩

/-- VALIDATE is the write of CRC_IN and the read of CRC_OUT (R70). -/
theorem exec_validate (h l c : Byte) (s : State) :
    exec (.validate h l c) s =
      exec .rdCrcOut { s with crcIn := splitCrcIn (0#8 ++ h ++ l ++ c) } := rfl

theorem checked_next {s t : State} {o : Host.Outcome State Fault Refusal} (h : checked s o = .next t) :
    foundFault s = none ∧ o = .next t := by
  unfold checked at h
  split at h
  · cases h
  · exact ⟨‹_›, h⟩

theorem checked_none {s : State} (h : foundFault s = none) (o : Host.Outcome State Fault Refusal) :
    checked s o = o := by
  simp [checked, h]

@[simp] theorem foundFault_setEvents (s : State) (es : List Event) : foundFault (s.setEvents es) = foundFault s := rfl
@[simp] theorem foundFault_deliver (s : State) (w : Word) : foundFault (s.deliver w) = foundFault s := rfl

/-- ST is below 14 where `foundFault` finds nothing. -/
theorem foundFault_st {s : State} (h : foundFault s = none) : s.st.toNat < 14 := by
  unfold foundFault at h
  split at h
  · cases h
  · omega

/-- A step on each kind of event, where `foundFault` finds nothing. -/
theorem step_host {s : State} {a : HostAccess} {rest : List Event} (he : s.events = .host a :: rest)
    (hf : foundFault s = none) : step s = runHost a (s.setEvents rest) := by
  simp only [step, he, runEvent]
  exact checked_none hf _

theorem step_bus {s : State} {rsp : RspWord} {rest : List Event} (he : s.events = .bus rsp :: rest)
    (hf : foundFault s = none) : step s = runBus rsp (s.setEvents rest) := by
  simp only [step, he, runEvent]
  exact checked_none hf _

theorem step_reset {s : State} {rest : List Event} (he : s.events = .reset :: rest) :
    step s = .next (s.setEvents rest).resetEvent := by
  simp only [step, he, runEvent]

/-- The step-ROM row of step k is `seqRow` (R94-R105). -/
theorem exec_rowInstr (k : TransactionStep) (rsp : RspWord) (s : State) :
    exec (rowInstr k rsp) s = seqRow k rsp s := by
  cases k <;> rfl

/-- SEQ_CLOSE where ST selects it (R110). -/
theorem exec_seqClose {s : State} (rsp : RspWord) (h : s.st = 13#4) :
    exec (.seqClose rsp) s = if s.pOk then .next s.closeValidated else s.closeFailed := by
  show execSeqClose rsp s = _
  unfold execSeqClose
  exact if_pos h

/-- Everything one step can do: a reset, a host event, or a BUS answer with SEQ's reaction. -/
theorem step_next {s t : State} (h : step s = .next t) :
    ∃ e rest, s.events = e :: rest ∧
      ((e = .reset ∧ t = (s.setEvents rest).resetEvent) ∨
       (∃ a, e = .host a ∧ foundFault s = none ∧ runHost a (s.setEvents rest) = .next t) ∨
       (∃ rsp, e = .bus rsp ∧ foundFault s = none ∧ s.reqV = true ∧
          react rsp ((s.setEvents rest).answer rsp) = .next t)) := by
  unfold step at h
  split at h
  · cases h
  · rename_i e rest he
    refine ⟨e, rest, he, ?_⟩
    cases e with
    | host a =>
      obtain ⟨hf, h⟩ := checked_next h
      exact .inr (.inl ⟨a, rfl, hf, h⟩)
    | bus rsp =>
      obtain ⟨hf, h⟩ := checked_next h
      obtain ⟨hv, h⟩ := runBus_next h
      exact .inr (.inr ⟨rsp, rfl, hf, hv, h⟩)
    | reset =>
      injection h with h
      exact .inl ⟨rfl, h.symm⟩

/-- Everything one step can do, by the event taken: a reset, a GO accepted in IDLE, another host event (a change of CRC_IN and
of what the HOST has read), or a BUS answer with SEQ's reaction. -/
theorem step_inversion {s t : State} {e : Event} {rest : List Event} (he : s.events = e :: rest) (h : step s = .next t) :
    (e = .reset ∧ t = (s.setEvents rest).resetEvent) ∨
    (onlyHost e = true ∧ s.st = 0#4 ∧ t = (s.setEvents rest).go) ∨
    (∃ a, e = .host a ∧ t = { s with events := rest, crcIn := t.crcIn, hostData := t.hostData } ∧
      (t.crcIn ≠ s.crcIn → a.isWrite = true ∧ a.off = 0x14 ∧ t.crcIn = splitCrcIn a.data)) ∨
    (∃ rsp, e = .bus rsp ∧ foundFault s = none ∧ s.reqV = true ∧
          react rsp ((s.setEvents rest).answer rsp) = .next t) := by
  obtain ⟨e', r', he', h⟩ := step_next h
  rw [he] at he'; cases he'
  rcases h with h | ⟨a, rfl, _, h⟩ | h
  · exact .inl h
  · rcases (runHost_next h).2 with ⟨_, _, _, h0, h⟩ | ⟨h, hc⟩
    · exact .inr (.inl ⟨rfl, h0, h⟩)
    · exact .inr (.inr (.inl ⟨a, rfl, h, hc⟩))
  · exact .inr (.inr (.inr h))

/-- Everything SEQ's reaction to a response can do, the eight ways apart (R92, R107, R110). -/
theorem react_inversion {s t : State} {rsp : RspWord} (h : react rsp s = .next t) :
    (s.st = 0#4 ∧ t = s) ∨
    (∃ k k', s.st = stepNum k ∧ rspStatus rsp = expected s.cfg k ∧ stepNext k = some k' ∧
      t = ((s.capture k (rspRdata rsp)).setSt (stepNum k')).issue (romOp k') (romData k')) ∨
    (s.st = 12#4 ∧ rspStatus rsp = s.cfg.expDataRNack ∧
      t = ((s.capture .s12 (rspRdata rsp)).latch true .s12 (rspStatus rsp)).toClose) ∨
    (∃ k, s.st = stepNum k ∧ rspStatus rsp ≠ expected s.cfg k ∧ stopAfterFail s.cfg.stopPolicy k = true ∧
      t = (s.latch false k (rspStatus rsp)).toClose) ∨
    (∃ k, s.st = stepNum k ∧ rspStatus rsp ≠ expected s.cfg k ∧ stopAfterFail s.cfg.stopPolicy k = false ∧
      t = s.finishBusFail k (rspStatus rsp)) ∨
    (s.st = 13#4 ∧ s.pOk = true ∧ primaryOk s.buf = true ∧ secondaryOk s.buf = true ∧
      t = s.finishOk (assemble s.buf.b7 s.buf.b8) (assemble s.buf.b10 s.buf.b11)) ∨
    (s.st = 13#4 ∧ s.pOk = true ∧ ∃ bad, bad ≠ 0#2 ∧ t = s.finishCrc bad s.pStatus) ∨
    (s.st = 13#4 ∧ s.pOk = false ∧ ∃ k, s.pStep = stepNum k ∧ t = s.finishBusFail k s.pStatus) := by
  rcases react_next h with h | ⟨k, hk, h⟩ | ⟨h1, h2, h⟩ | h
  · exact .inl h
  · rcases respondAt_cases s k rsp with ⟨hm, h'⟩ | ⟨hm, h'⟩
    · rcases advance_cases s k rsp with ⟨k', hk', ha⟩ | ⟨rfl, ha⟩
      · exact .inr (.inl ⟨k, k', hk, hm, hk', by rw [h, h', ha]⟩)
      · exact .inr (.inr (.inl ⟨hk, hm, by rw [h, h', ha]⟩))
    · rcases failAt_cases s k (rspStatus rsp) with ⟨hp, ha⟩ | ⟨hp, ha⟩
      · exact .inr (.inr (.inr (.inl ⟨k, hk, hm, hp, by rw [h, h', ha]⟩)))
      · exact .inr (.inr (.inr (.inr (.inl ⟨k, hk, hm, hp, by rw [h, h', ha]⟩))))
  · rcases closeValidated_cases s with ⟨a, b, c⟩ | ⟨a, b⟩
    · exact .inr (.inr (.inr (.inr (.inr (.inl ⟨h1, h2, a, b, by rw [h, c]⟩)))))
    · exact .inr (.inr (.inr (.inr (.inr (.inr (.inl ⟨h1, h2, _, bitOf_append_ne_zero a, by rw [h, b]⟩))))))
  · exact .inr (.inr (.inr (.inr (.inr (.inr (.inr h))))))

theorem reqOp_romReq (k : TransactionStep) : reqOp (romReq k) ≠ 7#3 := by cases k <;> decide

theorem dataWithoutWrite_romReq (k : TransactionStep) : dataWithoutWrite (romReq k) = false := by cases k <;> decide

/-- The step on an answer while ST awaits that of step k. -/
theorem step_await {s : State} {rsp : RspWord} {rest : List Event} (he : s.events = .bus rsp :: rest)
    (hf : foundFault s = none) (hv : s.reqV = true) {k : TransactionStep} (hs : s.st = stepNum k)
    (hq : s.req = romReq k) : step s = .next (((s.setEvents rest).answer rsp).respondAt k rsp) := by
  rw [step_bus he hf, runBus_eq rsp (by exact hv) (by show reqOp s.req ≠ _; rw [hq]; exact reqOp_romReq k)
    (by show dataWithoutWrite s.req = _; rw [hq]; exact dataWithoutWrite_romReq k),
    react_step rsp (by exact hs)]

/-- The step on the answer to the closing stop. -/
theorem step_close {s : State} {rsp : RspWord} {rest : List Event} (he : s.events = .bus rsp :: rest)
    (hf : foundFault s = none) (hv : s.reqV = true) (hs : s.st = 13#4) (hq : s.req = 0x500#11) :
    step s = if s.pOk then .next ((s.setEvents rest).answer rsp).closeValidated
      else ((s.setEvents rest).answer rsp).closeFailed := by
  rw [step_bus he hf, runBus_eq rsp (by exact hv) (by show reqOp s.req ≠ _; rw [hq]; decide)
    (by show dataWithoutWrite s.req = _; rw [hq]; decide),
    react_close rsp (by exact hs)]
  rfl

/-- A run's first step. -/
theorem run_next {s t : State} (n : Nat) (h : step s = .next t) : Sys2Proof.core.run (n + 1) s = Sys2Proof.core.run n t := by
  simp only [Host.Core.run, show Sys2Proof.core.step s = .next t from h]

/-- A run of `m + n` steps goes on from the state after `m`. -/
theorem run_add {s t : State} (m n : Nat) (h : Sys2Proof.core.run m s = .next t) : Sys2Proof.core.run (m + n) s = Sys2Proof.core.run n t := by
  induction m generalizing s with
  | zero => injection h with h; rw [h]; simp
  | succ m ih =>
    rw [show m + 1 + n = (m + n) + 1 by omega]
    cases hs : step s with
    | next u => rw [run_next _ hs] at h ⊢; exact ih h
    | fault r => rw [show Sys2Proof.core.run (m+1) s = .fault r by simp [Host.Core.run, show Sys2Proof.core.step s = .fault r from hs]] at h; cases h
    | refused r => rw [show Sys2Proof.core.run (m+1) s = .refused r by simp [Host.Core.run, show Sys2Proof.core.step s = .refused r from hs]] at h; cases h

end Sys2Proof.Machine
end

