-- ==== Sys2Proof/Laws/Contract.lean ====
section
/-! SUPPORT. What each piece of the host's program can do (Machine/Contract.lean). -/

namespace Sys2Proof.Machine

@[simp] theorem andThen_done {α β : Type} (a : α) (s : State) (f : α → State → HostResult β) :
    (HostResult.done a s).andThen f = f a s := rfl

/-- A piece of two parts is over only when both are. -/
theorem andThen_eq_done {α β : Type} {r : HostResult α} {f : α → State → HostResult β} {b : β} {t : State}
    (h : r.andThen f = .done b t) : ∃ a s, r = .done a s ∧ f a s = .done b t := by
  cases r with
  | done a s => exact ⟨a, s, rfl, h⟩
  | waiting s => cases h
  | notIssued s => cases h
  | fault e => cases h
  | refused e => cases h

theorem ofStep_eq_done {α : Type} {f : State → α} {o : Host.Outcome State Fault Refusal} {a : α} {t : State}
    (h : ofStep f o = .done a t) : o = .next t ∧ a = f t := by
  cases o with
  | next u => injection h with h1 h2; subst h2; exact ⟨rfl, h1.symm⟩
  | fault r => cases h
  | refused r => cases h

/-- The word that a read of a register delivers (R121-R126, R128, R130). -/
def readWord (s : State) : HostReg → Word
  | .ctrl => 0x00000000#32
  | .status => statusWord s
  | .rawP => s.rawP.setWidth 32
  | .rawS => s.rawS.setWidth 32
  | .err => errWord s.err
  | .crcIn => crcInWord s.crcIn
  | .crcOut => crcOutWord s.crcIn
  | .rsv => 0x00000000#32

/-- The instruction of a host read's line. -/
def readInstr : HostReg → Instr
  | .ctrl => .rdCtrl
  | .status => .rdStatus
  | .rawP => .rdRawP
  | .rawS => .rdRawS
  | .err => .rdErr
  | .crcIn => .rdCrcIn
  | .crcOut => .rdCrcOut
  | .rsv => .rdRsv

theorem decode_readLine (reg : HostReg) :
    decode (.hostAcc (lineAccess (.r reg)).descriptor (lineAccess (.r reg)).data) = .ok (readInstr reg) := by
  cases reg <;> decide

theorem readLine_admitted (reg : HostReg) : (lineAccess (.r reg)).refusal = none := by cases reg <;> decide

theorem exec_readInstr (reg : HostReg) (s : State) : exec (readInstr reg) s = .next (s.deliver (readWord s reg)) := by
  cases reg <;> rfl

/-- The step that a host read takes: it delivers the register's word, and nothing else changes (R51). -/
theorem step_read {s : State} (reg : HostReg) (hf : foundFault s = none) :
    step (s.setEvents (lineEvent (.r reg) :: s.events)) = .next (s.deliver (readWord s reg)) := by
  rw [step_host (a := lineAccess (.r reg)) rfl (by exact hf)]
  simp only [runHost, readLine_admitted, decode_readLine, exec_readInstr]
  cases reg <;> rfl

/-- A host read, where `foundFault` finds nothing. -/
theorem hostRead_eq {s : State} (reg : HostReg) (hf : foundFault s = none) :
    hostRead reg s = .done (readWord s reg) (s.deliver (readWord s reg)) := by
  simp only [hostRead, step_read reg hf, ofStep, State.deliver_hostData, Option.getD_some]

/-- A host read that is over gave the register's word and changed nothing else. -/
theorem hostRead_done {s t : State} {reg : HostReg} {v : Word} (h : hostRead reg s = .done v t) :
    foundFault s = none ∧ v = readWord s reg ∧ t = s.deliver (readWord s reg) := by
  cases hf : foundFault s with
  | none =>
    rw [hostRead_eq reg hf] at h
    injection h with h1 h2
    exact ⟨rfl, h1.symm, h2.symm⟩
  | some f =>
    have hs : step (s.setEvents (lineEvent (.r reg) :: s.events)) = .fault f := by
      simp only [step, State.setEvents_events, lineEvent, runEvent, checked]
      simp only [foundFault_setEvents, hf]
    simp only [hostRead, hs, ofStep] at h
    cases h

/-- No event between two accesses. -/
@[simp] theorem elapse_zero (s : State) : elapse 0 s = .done () s := rfl

/-- A read used as a reading that is over was made while OUTCOME = OK, and is the plain read (R133). -/
theorem readAsReading_done {s t : State} {reg : HostReg} {v : Word} (h : readAsReading reg s = .done v t) :
    s.outcome = outOk ∧ hostRead reg s = .done v t := by
  unfold readAsReading at h
  split at h
  · exact ⟨‹_›, h⟩
  · cases h

/-- RAW's 16 bits come back from the word they are read in. -/
@[simp] theorem raw_of_word (x : Raw) : (x.setWidth 32).extractLsb' 0 16 = x := by
  apply BitVec.eq_of_getLsbD_eq
  intro i hi
  simp [show i < 32 by omega, hi]

/-- BUSY is bit 0 of the STATUS word (R34). -/
theorem statusWord_busy (s : State) : (statusWord s).getLsbD 0 = busy s := by
  simp only [statusWord, bitOf, BitVec.getLsbD_setWidth, BitVec.getLsbD_append]
  simp

/-- WAITIDLE, one poll on. -/
theorem waitIdle_cons (g : Nat) (gaps : List Nat) (s : State) :
    waitIdle (g :: gaps) s = (elapse g s).andThen fun _ t =>
      (hostRead .status t).andThen fun v u => if v.getLsbD 0 then waitIdle gaps u else .done v u := rfl

/-- A WAITIDLE that is over ends with a poll that read BUSY = 0. -/
theorem waitIdle_done {gaps : List Nat} {s t : State} {v : Word} (h : waitIdle gaps s = .done v t) :
    t.st = 0#4 ∧ v = statusWord t := by
  induction gaps generalizing s with
  | nil => cases h
  | cons g gaps ih =>
    rw [waitIdle_cons] at h
    obtain ⟨_, u, _, h⟩ := andThen_eq_done h
    obtain ⟨w, x, hr, h⟩ := andThen_eq_done h
    obtain ⟨_, hw, hx⟩ := hostRead_done hr
    split at h
    · exact ih h
    · rename_i hb
      injection h with h1 h2
      subst h1 h2 hw hx
      refine ⟨?_, rfl⟩
      rw [show readWord u .status = statusWord u from rfl, statusWord_busy] at hb
      simpa [busy] using hb

end Sys2Proof.Machine
end

