-- ==== Sys2Proof/Laws/PerInstr.lean ====
section
/-! SUPPORT. Per instruction: its encoding lies in its own row of spec/opcode_table.json and no other word of its format. -/

namespace Sys2Proof.Laws

/-- The formats of the table. -/
inductive Format where
  | blReq | hostAcc | stepRom | crcIn
deriving DecidableEq, Repr

/-- A row of the table: format, match and mask. -/
structure Row where
  format : Format
  value : BitVec 32
  mask : BitVec 32
deriving DecidableEq, Repr

/-- The format of a code. -/
def formatOf : Code → Format
  | .blReq _ _ => .blReq
  | .hostAcc _ _ => .hostAcc
  | .stepRom _ _ => .stepRom
  | .crcIn _ => .crcIn

/-- The table word of a code, numbered as the table numbers it. -/
def wordOf : Code → BitVec 32
  | .blReq req _ => req.setWidth 32
  | .hostAcc desc _ => desc.setWidth 32
  | .stepRom st _ => st.setWidth 32
  | .crcIn word => word

/-- The row of each instruction, copied from the table's match and mask (VALIDATE: its encoding string). -/
def rowOf : Instr → Row
  | .start _ => { format := .blReq, value := 0x000#32, mask := 0x7FF#32 }
  | .restart _ => { format := .blReq, value := 0x100#32, mask := 0x7FF#32 }
  | .write _ _ => { format := .blReq, value := 0x200#32, mask := 0x700#32 }
  | .readAck _ => { format := .blReq, value := 0x300#32, mask := 0x7FF#32 }
  | .readNack _ => { format := .blReq, value := 0x400#32, mask := 0x7FF#32 }
  | .stop _ => { format := .blReq, value := 0x500#32, mask := 0x7FF#32 }
  | .status _ => { format := .blReq, value := 0x600#32, mask := 0x7FF#32 }
  | .rdCtrl => { format := .hostAcc, value := 0x000#32, mask := 0x1FF#32 }
  | .wrCtrl _ => { format := .hostAcc, value := 0x100#32, mask := 0x1FF#32 }
  | .rdStatus => { format := .hostAcc, value := 0x004#32, mask := 0x1FF#32 }
  | .rdRawP => { format := .hostAcc, value := 0x008#32, mask := 0x1FF#32 }
  | .rdRawS => { format := .hostAcc, value := 0x00C#32, mask := 0x1FF#32 }
  | .rdErr => { format := .hostAcc, value := 0x010#32, mask := 0x1FF#32 }
  | .rdCrcIn => { format := .hostAcc, value := 0x014#32, mask := 0x1FF#32 }
  | .wrCrcIn _ => { format := .hostAcc, value := 0x114#32, mask := 0x1FF#32 }
  | .rdCrcOut => { format := .hostAcc, value := 0x018#32, mask := 0x1FF#32 }
  | .wrRoStatus _ => { format := .hostAcc, value := 0x104#32, mask := 0x1FF#32 }
  | .wrRoRawP _ => { format := .hostAcc, value := 0x108#32, mask := 0x1FF#32 }
  | .wrRoRawS _ => { format := .hostAcc, value := 0x10C#32, mask := 0x1FF#32 }
  | .wrRoErr _ => { format := .hostAcc, value := 0x110#32, mask := 0x1FF#32 }
  | .wrRoCrcOut _ => { format := .hostAcc, value := 0x118#32, mask := 0x1FF#32 }
  | .rdRsv => { format := .hostAcc, value := 0x01C#32, mask := 0x1FF#32 }
  | .wrRsv _ => { format := .hostAcc, value := 0x11C#32, mask := 0x1FF#32 }
  | .seqStep1 _ => { format := .stepRom, value := 0x1#32, mask := 0xF#32 }
  | .seqStep2 _ => { format := .stepRom, value := 0x2#32, mask := 0xF#32 }
  | .seqStep3 _ => { format := .stepRom, value := 0x3#32, mask := 0xF#32 }
  | .seqStep4 _ => { format := .stepRom, value := 0x4#32, mask := 0xF#32 }
  | .seqStep5 _ => { format := .stepRom, value := 0x5#32, mask := 0xF#32 }
  | .seqStep6 _ => { format := .stepRom, value := 0x6#32, mask := 0xF#32 }
  | .seqStep7 _ => { format := .stepRom, value := 0x7#32, mask := 0xF#32 }
  | .seqStep8 _ => { format := .stepRom, value := 0x8#32, mask := 0xF#32 }
  | .seqStep9 _ => { format := .stepRom, value := 0x9#32, mask := 0xF#32 }
  | .seqStep10 _ => { format := .stepRom, value := 0xA#32, mask := 0xF#32 }
  | .seqStep11 _ => { format := .stepRom, value := 0xB#32, mask := 0xF#32 }
  | .seqStep12 _ => { format := .stepRom, value := 0xC#32, mask := 0xF#32 }
  | .seqClose _ => { format := .stepRom, value := 0xD#32, mask := 0xF#32 }
  | .validate _ _ _ => { format := .crcIn, value := 0x0#32, mask := 0xFF000000#32 }

/-- The instruction is well formed, and its code is a well-formed word of its own row. -/
def EncodesItsRow.Statement (i : Instr) : Prop :=
  i.wf = true ∧ (encode i).wf = true ∧ formatOf (encode i) = (rowOf i).format ∧
    wordOf (encode i) &&& (rowOf i).mask = (rowOf i).value

/-- WRITE's OP field, whatever the byte (R57, R58). -/
theorem write_word (data : Byte) : ((0b010#3 ++ data).setWidth 32 : BitVec 32) &&& 0x700#32 = 0x200#32 := by
  revert data; decide

/-- WRITE's OP is not the reserved one, whatever the byte (R57, R58). -/
theorem write_wf (data : Byte) : (Code.blReq (0b010#3 ++ data) 0#16).wf = true := by
  revert data; decide

/-- The top byte of a VALIDATE word (R70). -/
theorem query_word (h l c : Byte) : (0#8 ++ h ++ l ++ c) &&& 0xFF000000#32 = 0x0#32 := by
  apply BitVec.eq_of_getLsbD_eq
  intro i hi
  simp only [BitVec.getLsbD_and, BitVec.getLsbD_append]
  interval_cases i <;> simp

/-- The top byte of a VALIDATE word (R70). -/
theorem query_wf (h l c : Byte) : (0#8 ++ h ++ l ++ c).extractLsb' 24 8 = 0#8 := by
  apply BitVec.eq_of_getLsbD_eq
  intro i hi
  simp only [BitVec.getLsbD_extractLsb', BitVec.getLsbD_append]
  interval_cases i <;> simp

namespace EncodesItsRow

theorem start (rsp : RspWord) : Statement (.start rsp) :=
  ⟨rfl, rfl, rfl, by simp [encode, wordOf, rowOf]⟩
theorem restart (rsp : RspWord) : Statement (.restart rsp) :=
  ⟨rfl, rfl, rfl, by simp [encode, wordOf, rowOf]⟩
theorem write (data : Byte) (rsp : RspWord) : Statement (.write data rsp) := by
  refine ⟨rfl, ?_, rfl, write_word data⟩
  simpa [encode, Code.wf] using write_wf data
theorem readAck (rsp : RspWord) : Statement (.readAck rsp) :=
  ⟨rfl, rfl, rfl, by simp [encode, wordOf, rowOf]⟩
theorem readNack (rsp : RspWord) : Statement (.readNack rsp) :=
  ⟨rfl, rfl, rfl, by simp [encode, wordOf, rowOf]⟩
theorem stop (rsp : RspWord) : Statement (.stop rsp) :=
  ⟨rfl, rfl, rfl, by simp [encode, wordOf, rowOf]⟩
theorem status (rsp : RspWord) : Statement (.status rsp) :=
  ⟨rfl, rfl, rfl, by simp [encode, wordOf, rowOf]⟩
theorem rdCtrl : Statement (.rdCtrl) :=
  ⟨rfl, rfl, rfl, by simp [encode, wordOf, rowOf]⟩
theorem wrCtrl (data : Word) : Statement (.wrCtrl data) :=
  ⟨rfl, rfl, rfl, by simp [encode, wordOf, rowOf]⟩
theorem rdStatus : Statement (.rdStatus) :=
  ⟨rfl, rfl, rfl, by simp [encode, wordOf, rowOf]⟩
theorem rdRawP : Statement (.rdRawP) :=
  ⟨rfl, rfl, rfl, by simp [encode, wordOf, rowOf]⟩
theorem rdRawS : Statement (.rdRawS) :=
  ⟨rfl, rfl, rfl, by simp [encode, wordOf, rowOf]⟩
theorem rdErr : Statement (.rdErr) :=
  ⟨rfl, rfl, rfl, by simp [encode, wordOf, rowOf]⟩
theorem rdCrcIn : Statement (.rdCrcIn) :=
  ⟨rfl, rfl, rfl, by simp [encode, wordOf, rowOf]⟩
theorem wrCrcIn (data : Word) : Statement (.wrCrcIn data) :=
  ⟨rfl, rfl, rfl, by simp [encode, wordOf, rowOf]⟩
theorem rdCrcOut : Statement (.rdCrcOut) :=
  ⟨rfl, rfl, rfl, by simp [encode, wordOf, rowOf]⟩
theorem wrRoStatus (data : Word) : Statement (.wrRoStatus data) :=
  ⟨rfl, rfl, rfl, by simp [encode, wordOf, rowOf]⟩
theorem wrRoRawP (data : Word) : Statement (.wrRoRawP data) :=
  ⟨rfl, rfl, rfl, by simp [encode, wordOf, rowOf]⟩
theorem wrRoRawS (data : Word) : Statement (.wrRoRawS data) :=
  ⟨rfl, rfl, rfl, by simp [encode, wordOf, rowOf]⟩
theorem wrRoErr (data : Word) : Statement (.wrRoErr data) :=
  ⟨rfl, rfl, rfl, by simp [encode, wordOf, rowOf]⟩
theorem wrRoCrcOut (data : Word) : Statement (.wrRoCrcOut data) :=
  ⟨rfl, rfl, rfl, by simp [encode, wordOf, rowOf]⟩
theorem rdRsv : Statement (.rdRsv) :=
  ⟨rfl, rfl, rfl, by simp [encode, wordOf, rowOf]⟩
theorem wrRsv (data : Word) : Statement (.wrRsv data) :=
  ⟨rfl, rfl, rfl, by simp [encode, wordOf, rowOf]⟩
theorem seqStep1 (rsp : RspWord) : Statement (.seqStep1 rsp) :=
  ⟨rfl, rfl, rfl, by simp [encode, wordOf, rowOf]⟩
theorem seqStep2 (rsp : RspWord) : Statement (.seqStep2 rsp) :=
  ⟨rfl, rfl, rfl, by simp [encode, wordOf, rowOf]⟩
theorem seqStep3 (rsp : RspWord) : Statement (.seqStep3 rsp) :=
  ⟨rfl, rfl, rfl, by simp [encode, wordOf, rowOf]⟩
theorem seqStep4 (rsp : RspWord) : Statement (.seqStep4 rsp) :=
  ⟨rfl, rfl, rfl, by simp [encode, wordOf, rowOf]⟩
theorem seqStep5 (rsp : RspWord) : Statement (.seqStep5 rsp) :=
  ⟨rfl, rfl, rfl, by simp [encode, wordOf, rowOf]⟩
theorem seqStep6 (rsp : RspWord) : Statement (.seqStep6 rsp) :=
  ⟨rfl, rfl, rfl, by simp [encode, wordOf, rowOf]⟩
theorem seqStep7 (rsp : RspWord) : Statement (.seqStep7 rsp) :=
  ⟨rfl, rfl, rfl, by simp [encode, wordOf, rowOf]⟩
theorem seqStep8 (rsp : RspWord) : Statement (.seqStep8 rsp) :=
  ⟨rfl, rfl, rfl, by simp [encode, wordOf, rowOf]⟩
theorem seqStep9 (rsp : RspWord) : Statement (.seqStep9 rsp) :=
  ⟨rfl, rfl, rfl, by simp [encode, wordOf, rowOf]⟩
theorem seqStep10 (rsp : RspWord) : Statement (.seqStep10 rsp) :=
  ⟨rfl, rfl, rfl, by simp [encode, wordOf, rowOf]⟩
theorem seqStep11 (rsp : RspWord) : Statement (.seqStep11 rsp) :=
  ⟨rfl, rfl, rfl, by simp [encode, wordOf, rowOf]⟩
theorem seqStep12 (rsp : RspWord) : Statement (.seqStep12 rsp) :=
  ⟨rfl, rfl, rfl, by simp [encode, wordOf, rowOf]⟩
theorem seqClose (rsp : RspWord) : Statement (.seqClose rsp) :=
  ⟨rfl, rfl, rfl, by simp [encode, wordOf, rowOf]⟩
theorem validate (h : Byte) (l : Byte) (c : Byte) : Statement (.validate h l c) := by
  refine ⟨rfl, ?_, rfl, query_word h l c⟩
  simp only [encode, Code.wf, query_wf]; rfl

end EncodesItsRow

end Sys2Proof.Laws
end

