-- ==== Sys2Proof/Tests/Slice0.lean ====
section
/-! SUPPORT. Tests. Expected results are those of spec/95_test_vectors.md, of the tables of spec/30_encoding.md and of
spec/opcode_table.json. The last part shows, for every statement with hypotheses, values that meet them. -/

namespace Sys2Proof.Tests

open Sys2Proof.Machine

/-! ## The bench -/

/-- EXCFG (00_scope.md), the example configuration of the vectors. -/
def excfg : Params where
  stopPolicy := .always
  expStart := 0x08#8
  expSlaWAck := 0x18#8
  expDataWAck := 0x28#8
  expSlaRAck := 0x40#8
  expDataRAck := 0x50#8
  expDataRNack := 0x58#8
  windowBase := 0x1000

/-- EXCFG with the other stop policy. -/
def excfgSource : Params := { excfg with stopPolicy := .source }

/-- A buffer. -/
def bytes (a b c d e f : Byte) : Buffer := { b7 := a, b8 := b, b9 := c, b10 := d, b11 := e, b12 := f }

/-- The state after reset under EXCFG, with a buffer of zeros. -/
def bench : State := { State.reset with cfg := excfg, buf := bytes 0#8 0#8 0#8 0#8 0#8 0#8 }

/-- ST awaits the answer of `st`'s request. -/
def await (st : BitVec 4) : State :=
  { bench with st := st, reqV := true, req := requestAt st, trace := [{ req := requestAt st, rsp := none }] }

/-- The same, with SEQ's half of the response event still to come. -/
def answered (st : BitVec 4) : State := { await st with reqV := false }

/-- CLOSE after twelve matched steps with these bytes. -/
def closing (b : Buffer) : State := { answered 13#4 with buf := b, pOk := true, pStep := 12#4, pStatus := 0x58#8 }

/-- CLOSE after a failed step. -/
def closingFailed (k : BitVec 4) (status : Byte) : State :=
  { answered 13#4 with pOk := false, pStep := k, pStatus := status }

/-- A request on the port. -/
def port (req : ReqWord) : State := { bench with reqV := true, req := req, trace := [{ req := req, rsp := none }] }

/-- What a next state shows; none for a stop. -/
def got {α : Type} (o : Host.Outcome State Fault Refusal) (f : State → α) : Option α :=
  match o with
  | .next t => some (f t)
  | .fault _ => none
  | .refused _ => none

/-- The reason of a refusal. -/
def refusedWith (o : Host.Outcome State Fault Refusal) : Option Refusal :=
  match o with
  | .next _ => none
  | .fault _ => none
  | .refused r => some r

/-- The reason of a fault. -/
def faultedWith (o : Host.Outcome State Fault Refusal) : Option Fault :=
  match o with
  | .next _ => none
  | .fault r => some r
  | .refused _ => none

/-- P1, events 3 to 15: the answers of a successful transaction. -/
def p1Answers : List Event :=
  [.bus 0x0008#16, .bus 0x0018#16, .bus 0x0028#16, .bus 0x0028#16, .bus 0x0008#16, .bus 0x0040#16, .bus 0x6650#16,
    .bus 0x6650#16, .bus 0x9350#16, .bus 0xBE50#16, .bus 0xEF50#16, .bus 0x9258#16, .bus 0x0000#16]

/-- P2: START is answered, SLA+W is not acknowledged, then the STOP response. -/
def p2Answers : List Event := [.bus 0x0008#16, .bus 0x0020#16, .bus 0x0000#16]

/-- ST, REQ_V and REQ. -/
def control (s : State) : BitVec 4 × Bool × ReqWord := (s.st, s.reqV, s.req)

/-- The STATUS word and the ERR word. -/
def words (s : State) : Word × Word := (statusWord s, errWord s.err)

/-! ## Well-formedness: one ill-formed code for each check (R59, R62, R63, R70) -/

theorem test_wf_reserved_op : (Code.blReq 0x700#11 0#16).wf = false := by decide

theorem test_wf_data_without_write : (Code.blReq 0x001#11 0#16).wf = false := by decide

theorem test_wf_misaligned_offset : (Code.hostAcc 0x002#9 0#32).wf = false := by decide

theorem test_wf_offset_outside : (Code.hostAcc 0x120#9 0#32).wf = false := by decide

theorem test_wf_idle_row : (Code.stepRom 0#4 0#16).wf = false := by decide

theorem test_wf_unreachable_rows : (Code.stepRom 14#4 0#16).wf = false ∧ (Code.stepRom 15#4 0#16).wf = false := by decide

theorem test_wf_query_top_byte : (Code.crcIn 0x01DEAD98#32).wf = false := by decide

/-- V-HOST: a 16-bit read at offset 0x04 is refused. -/
theorem test_refused_width : (HostAccess.mk false 4 2 0#32).refusal = some .accessWidth := by decide

/-- V-HOST: a 32-bit read at offset 0x02 is refused. -/
theorem test_refused_misaligned : (HostAccess.mk false 2 4 0#32).refusal = some .misaligned := by decide

/-! ## Decoding: every constructor, by its word bit by bit (R58, R64, R62, R70) -/

/-- The request words of R58. -/
theorem test_decode_bus_link : 
    decode (.blReq 0b00000000000#11 0#16) = .ok (.start 0#16) ∧
    decode (.blReq 0b00100000000#11 0#16) = .ok (.restart 0#16) ∧
    decode (.blReq 0b01010001000#11 0#16) = .ok (.write 0x88#8 0#16) ∧
    decode (.blReq 0b01100000000#11 0#16) = .ok (.readAck 0#16) ∧
    decode (.blReq 0b10000000000#11 0#16) = .ok (.readNack 0#16) ∧
    decode (.blReq 0b10100000000#11 0#16) = .ok (.stop 0#16) ∧
    decode (.blReq 0b11000000000#11 0#16) = .ok (.status 0#16) := by decide

/-- The descriptors of R64. -/
theorem test_decode_host : 
    decode (.hostAcc 0b000000000#9 5#32) = .ok .rdCtrl ∧
    decode (.hostAcc 0b100000000#9 5#32) = .ok (.wrCtrl 5#32) ∧
    decode (.hostAcc 0b000000100#9 5#32) = .ok .rdStatus ∧
    decode (.hostAcc 0b000001000#9 5#32) = .ok .rdRawP ∧
    decode (.hostAcc 0b000001100#9 5#32) = .ok .rdRawS ∧
    decode (.hostAcc 0b000010000#9 5#32) = .ok .rdErr ∧
    decode (.hostAcc 0b000010100#9 5#32) = .ok .rdCrcIn ∧
    decode (.hostAcc 0b100010100#9 5#32) = .ok (.wrCrcIn 5#32) ∧
    decode (.hostAcc 0b000011000#9 5#32) = .ok .rdCrcOut ∧
    decode (.hostAcc 0b100000100#9 5#32) = .ok (.wrRoStatus 5#32) ∧
    decode (.hostAcc 0b100001000#9 5#32) = .ok (.wrRoRawP 5#32) ∧
    decode (.hostAcc 0b100001100#9 5#32) = .ok (.wrRoRawS 5#32) ∧
    decode (.hostAcc 0b100010000#9 5#32) = .ok (.wrRoErr 5#32) ∧
    decode (.hostAcc 0b100011000#9 5#32) = .ok (.wrRoCrcOut 5#32) ∧
    decode (.hostAcc 0b000011100#9 5#32) = .ok .rdRsv ∧
    decode (.hostAcc 0b100011100#9 5#32) = .ok (.wrRsv 5#32) := by decide

/-- The rows of R62, by ST. -/
theorem test_decode_step_rom : 
    decode (.stepRom 0b0001#4 7#16) = .ok (.seqStep1 7#16) ∧
    decode (.stepRom 0b0010#4 7#16) = .ok (.seqStep2 7#16) ∧
    decode (.stepRom 0b0011#4 7#16) = .ok (.seqStep3 7#16) ∧
    decode (.stepRom 0b0100#4 7#16) = .ok (.seqStep4 7#16) ∧
    decode (.stepRom 0b0101#4 7#16) = .ok (.seqStep5 7#16) ∧
    decode (.stepRom 0b0110#4 7#16) = .ok (.seqStep6 7#16) ∧
    decode (.stepRom 0b0111#4 7#16) = .ok (.seqStep7 7#16) ∧
    decode (.stepRom 0b1000#4 7#16) = .ok (.seqStep8 7#16) ∧
    decode (.stepRom 0b1001#4 7#16) = .ok (.seqStep9 7#16) ∧
    decode (.stepRom 0b1010#4 7#16) = .ok (.seqStep10 7#16) ∧
    decode (.stepRom 0b1011#4 7#16) = .ok (.seqStep11 7#16) ∧
    decode (.stepRom 0b1100#4 7#16) = .ok (.seqStep12 7#16) ∧
    decode (.stepRom 0b1101#4 7#16) = .ok (.seqClose 7#16) := by decide

/-- The CRC_IN word of R34, for the reference vector. -/
theorem test_decode_validate : decode (.crcIn 0b00000000110111101010110110011000#32) = .ok (.validate 0xDE#8 0xAD#8 0x98#8) := by decide

/-- R66. -/
theorem test_decode_reserved : decode (.blReq 0b11100000000#11 0#16) = .bad .reservedOp ∧ decode (.hostAcc 0b000000010#9 0#32) = .bad .notAdmitted ∧
    decode (.stepRom 0b1110#4 0#16) = .bad .unreachableState := by decide

theorem test_table_words : decodeTableWord 8 0x0D = some (.seqClose 0#16) ∧ decodeTableWord 16 0x288 = some (.write 0x88#8 0#16) ∧
    decodeTableWord 16 0x114 = some (.wrCrcIn 0#32) ∧ decodeTableWord 32 0x00DEAD98 = some (.validate 0xDE#8 0xAD#8 0x98#8) := by decide

/-- V-ROM. -/
theorem test_encode_rom : allSteps.map romReq = [0x000#11, 0x288#11, 0x22C#11, 0x206#11, 0x100#11, 0x289#11, 0x300#11, 0x300#11, 0x300#11,
    0x300#11, 0x300#11, 0x400#11] := by decide

/-! ## Checksum: V-CRC-0, V-CRC, V-VAL -/

theorem test_shift8 : shift8 0x00#8 = 0x00#8 ∧ shift8 0x01#8 = 0x31#8 ∧ shift8 0x80#8 = 0x7A#8 ∧ shift8 0xFF#8 = 0xAC#8 := by decide +kernel

theorem test_crc8 : 
    crc8 0x00#8 0x00#8 = 0x81#8 ∧
    crc8 0xFF#8 0x00#8 = 0x00#8 ∧
    crc8 0xFF#8 0xFF#8 = 0xAC#8 ∧
    crc8 0x80#8 0x00#8 = 0xA2#8 ∧
    crc8 0x00#8 0x01#8 = 0xB0#8 ∧
    crc8 0x66#8 0x66#8 = 0x93#8 ∧
    crc8 0xBE#8 0xEF#8 = 0x92#8 ∧
    crc8 0x12#8 0x34#8 = 0x37#8 ∧
    crc8 0x5A#8 0xA5#8 = 0x81#8 := by decide +kernel

theorem test_validate : validate 0xDE#8 0xAD#8 0x98#8 = true ∧ validate 0xDE#8 0xAD#8 0x99#8 = false ∧ validate 0x5E#8 0xAD#8 0x98#8 = false ∧
    validate 0x00#8 0x00#8 0x00#8 = false ∧ validate 0xFF#8 0x00#8 0x00#8 = true := by decide +kernel

/-- R89: `R CRC_OUT -> 0x00000198`. -/
theorem test_validate_query : got (exec (.validate 0xDE#8 0xAD#8 0x98#8) bench) (fun t => (t.hostData, crcInWord t.crcIn)) =
    some (some 0x00000198#32, 0x00DEAD98#32) := by decide +kernel

/-! ## Bus-link operations: V-BL, R72 -/

theorem test_start : got (exec (.start 0x0008#16) (port 0x000#11)) (fun t => (t.reqV, t.trace)) =
    some (false, [Exchange.mk 0x000#11 (some 0x0008#16)]) := by decide

theorem test_restart : got (exec (.restart 0x0008#16) (port 0x100#11)) (fun t => (t.reqV, t.trace)) =
    some (false, [Exchange.mk 0x100#11 (some 0x0008#16)]) := by decide

theorem test_write : got (exec (.write 0x88#8 0x0018#16) (port 0x288#11)) (fun t => (t.reqV, t.trace)) =
    some (false, [Exchange.mk 0x288#11 (some 0x0018#16)]) := by decide

theorem test_read_ack : got (exec (.readAck 0x6650#16) (port 0x300#11)) (fun t => (t.reqV, t.trace)) =
    some (false, [Exchange.mk 0x300#11 (some 0x6650#16)]) := by decide

theorem test_read_nack : got (exec (.readNack 0x9258#16) (port 0x400#11)) (fun t => (t.reqV, t.trace)) =
    some (false, [Exchange.mk 0x400#11 (some 0x9258#16)]) := by decide

theorem test_stop : got (exec (.stop 0x0000#16) (port 0x500#11)) (fun t => (t.reqV, t.trace)) =
    some (false, [Exchange.mk 0x500#11 (some 0x0000#16)]) := by decide

theorem test_status : got (exec (.status 0x00F8#16) (port 0x600#11)) (fun t => (t.reqV, t.trace)) =
    some (false, [Exchange.mk 0x600#11 (some 0x00F8#16)]) := by decide

theorem test_write_other_byte : refusedWith (exec (.write 0x89#8 0x0018#16) (port 0x288#11)) = some .otherRequest := by decide

/-- R72: when REQ_V = 0 the BUS agent has no step. -/
theorem test_answer_without_request : refusedWith (exec (.start 0x0008#16) bench) = some .noRequest := by decide

/-! ## Sequencer: V-BL, S-F, S-OK, S-C -/

theorem test_step1_match : got (exec (.seqStep1 0x0008#16) (answered 1#4)) (fun t => control t) =
    some (2#4, true, 0x288#11) := by decide

theorem test_step1_mismatch : got (exec (.seqStep1 0x6609#16) { answered 1#4 with cfg := excfgSource }) (fun t => (words t, t.reqV)) =
    some ((0x00000004#32, 0x00001109#32), false) := by decide

theorem test_step2_match : got (exec (.seqStep2 0x0018#16) (answered 2#4)) (fun t => control t) =
    some (3#4, true, 0x22C#11) := by decide

theorem test_step2_mismatch : got (exec (.seqStep2 0x6620#16) { answered 2#4 with cfg := excfgSource })
    (fun t => (control t, t.pStep, t.pStatus, t.outcome)) = some ((13#4, true, 0x500#11), 2#4, 0x20#8, 0#2) := by decide

theorem test_step3_match : got (exec (.seqStep3 0x0028#16) (answered 3#4)) (fun t => control t) =
    some (4#4, true, 0x206#11) := by decide

theorem test_step3_mismatch : got (exec (.seqStep3 0x6630#16) { answered 3#4 with cfg := excfgSource })
    (fun t => (control t, t.pStep, t.pStatus, t.outcome)) = some ((13#4, true, 0x500#11), 3#4, 0x30#8, 0#2) := by decide

theorem test_step4_match : got (exec (.seqStep4 0x0028#16) (answered 4#4)) (fun t => control t) =
    some (5#4, true, 0x100#11) := by decide

theorem test_step4_mismatch : got (exec (.seqStep4 0x6630#16) { answered 4#4 with cfg := excfgSource })
    (fun t => (control t, t.pStep, t.pStatus, t.outcome)) = some ((13#4, true, 0x500#11), 4#4, 0x30#8, 0#2) := by decide

theorem test_step5_match : got (exec (.seqStep5 0x0008#16) (answered 5#4)) (fun t => control t) =
    some (6#4, true, 0x289#11) := by decide

theorem test_step5_mismatch : got (exec (.seqStep5 0x6610#16) { answered 5#4 with cfg := excfgSource }) (fun t => (words t, t.reqV)) =
    some ((0x00000004#32, 0x00001510#32), false) := by decide

theorem test_step6_match : got (exec (.seqStep6 0x0040#16) (answered 6#4)) (fun t => control t) =
    some (7#4, true, 0x300#11) := by decide

theorem test_step6_mismatch : got (exec (.seqStep6 0x6648#16) { answered 6#4 with cfg := excfgSource })
    (fun t => (control t, t.pStep, t.pStatus, t.outcome)) = some ((13#4, true, 0x500#11), 6#4, 0x48#8, 0#2) := by decide

theorem test_step7_match : got (exec (.seqStep7 0x6650#16) (answered 7#4)) (fun t => (control t, t.buf.b7)) =
    some ((8#4, true, 0x300#11), 0x66#8) := by decide

theorem test_step7_mismatch : got (exec (.seqStep7 0x6638#16) { answered 7#4 with cfg := excfgSource }) (fun t => (words t, t.reqV)) =
    some ((0x00000004#32, 0x00004738#32), false) := by decide

theorem test_step8_match : got (exec (.seqStep8 0x6650#16) (answered 8#4)) (fun t => (control t, t.buf.b8)) =
    some ((9#4, true, 0x300#11), 0x66#8) := by decide

theorem test_step8_mismatch : got (exec (.seqStep8 0x6638#16) { answered 8#4 with cfg := excfgSource }) (fun t => (words t, t.reqV)) =
    some ((0x00000004#32, 0x00004838#32), false) := by decide

theorem test_step9_match : got (exec (.seqStep9 0x9350#16) (answered 9#4)) (fun t => (control t, t.buf.b9)) =
    some ((10#4, true, 0x300#11), 0x93#8) := by decide

theorem test_step9_mismatch : got (exec (.seqStep9 0x6658#16) { answered 9#4 with cfg := excfgSource }) (fun t => (words t, t.reqV)) =
    some ((0x00000004#32, 0x00004958#32), false) := by decide

theorem test_step10_match : got (exec (.seqStep10 0xBE50#16) (answered 10#4)) (fun t => (control t, t.buf.b10)) =
    some ((11#4, true, 0x300#11), 0xBE#8) := by decide

theorem test_step10_mismatch : got (exec (.seqStep10 0x6638#16) { answered 10#4 with cfg := excfgSource }) (fun t => (words t, t.reqV)) =
    some ((0x00000004#32, 0x00004A38#32), false) := by decide

theorem test_step11_match : got (exec (.seqStep11 0xEF50#16) (answered 11#4)) (fun t => (control t, t.buf.b11)) =
    some ((12#4, true, 0x400#11), 0xEF#8) := by decide

theorem test_step11_mismatch : got (exec (.seqStep11 0x6658#16) { answered 11#4 with cfg := excfgSource }) (fun t => (words t, t.reqV)) =
    some ((0x00000004#32, 0x00004B58#32), false) := by decide

theorem test_step12_match : got (exec (.seqStep12 0x9258#16) (answered 12#4)) (fun t => (control t, t.buf.b12)) =
    some ((13#4, true, 0x500#11), 0x92#8) := by decide

theorem test_step12_mismatch : got (exec (.seqStep12 0x6650#16) { answered 12#4 with cfg := excfgSource }) (fun t => (words t, t.reqV)) =
    some ((0x00000004#32, 0x00004C50#32), false) := by decide

/-- V-BL and S-F: 0x18 is another step's code; under ALWAYS the stop is issued and ERR not yet written. -/
theorem test_step1_mismatch_always : got (exec (.seqStep1 0x0018#16) (answered 1#4)) (fun t => (statusWord t, control t, errWord t.err)) =
    some (0x00000D01#32, (13#4, true, 0x500#11), 0#32) := by decide

theorem test_close_ok : got (exec (.seqClose 0xFFFF#16) (closing (bytes 0x66#8 0x66#8 0x93#8 0xBE#8 0xEF#8 0x92#8)))
    (fun t => (words t, t.rawP, t.rawS)) = some ((0x00000002#32, 0#32), 0x6666#16, 0xBEEF#16) := by decide +kernel

theorem test_close_crc_fail : got (exec (.seqClose 0xFFFF#16) (closing (bytes 0x66#8 0x66#8 0x93#8 0xBE#8 0xEF#8 0x93#8)))
    (fun t => (words t, t.rawP, t.rawS)) = some ((0x00000026#32, 0x00005D58#32), 0#16, 0#16) := by decide +kernel

theorem test_close_crc_fail_primary : got (exec (.seqClose 0xFFFF#16) (closing (bytes 0x66#8 0x66#8 0x94#8 0xBE#8 0xEF#8 0x92#8)))
    (fun t => words t) = some (0x00000016#32, 0x00005D58#32) := by decide +kernel

/-- P2. -/
theorem test_close_bus_fail : got (exec (.seqClose 0x0000#16) (closingFailed 2#4 0x20#8)) words = some (0x00000004#32, 0x00002220#32) := by decide

/-- R109: finish_bus_fail is for 1 <= k <= 12 (log entry 14). -/
theorem test_close_without_record : faultedWith (exec (.seqClose 0x0000#16) (closingFailed 13#4 0x20#8)) = some .badPendingStep := by decide

theorem test_row_not_selected : refusedWith (exec (.seqStep2 0x0018#16) (answered 1#4)) = some .rowNotSelected := by decide

/-! ## Host operations: V-HOST, S-G -/

/-- S-G1, S-G5. -/
theorem test_go_accepted : got (exec (.wrCtrl 0xFFFFFFFF#32) bench) (fun t => (statusWord t, control t, t.trace)) =
    some (0x00000101#32, (1#4, true, 0x000#11), [Exchange.mk 0x000#11 none]) := by decide

/-- S-G4. -/
theorem test_go_bit_clear : exec (.wrCtrl 0xFFFFFFFE#32) bench = .next bench := by rfl

/-- S-G2. -/
theorem test_go_while_busy : got (exec (.wrCtrl 0x00000001#32) (await 3#4)) (fun t => (statusWord t, t.trace)) =
    some (0x00000301#32, [Exchange.mk 0x22C#11 none]) := by decide

/-- S-G6. -/
theorem test_go_clears_outcome : got (exec (.wrCtrl 1#32) { bench with outcome := 3#2, crcBad := 2#2, err := ErrReg.mk 5#3 13#4 0x58#8 }) words =
    some (0x00000101#32, 0x00005D58#32) := by decide

theorem test_rd_ctrl : got (exec .rdCtrl (await 7#4)) (fun t => t.hostData) = some (some 0x00000000#32) := by decide

theorem test_rd_status : got (exec .rdStatus (await 7#4)) (fun t => t.hostData) = some (some 0x00000701#32) := by decide

theorem test_rd_raw_p : got (exec .rdRawP { bench with rawP := 0x6666#16, rawS := 0xBEEF#16 }) (fun t => t.hostData) = some (some 0x00006666#32) := by decide

theorem test_rd_raw_s : got (exec .rdRawS { bench with rawP := 0x6666#16, rawS := 0xBEEF#16 }) (fun t => t.hostData) = some (some 0x0000BEEF#32) := by decide

theorem test_rd_err : got (exec .rdErr { bench with err := ErrReg.mk 2#3 2#4 0x20#8 }) (fun t => t.hostData) = some (some 0x00002220#32) := by decide

theorem test_wr_crc_in : got (exec (.wrCrcIn 0xFFDEAD98#32) (await 7#4)) (fun t => (t.crcIn, statusWord t)) =
    some (CrcIn.mk 0xDE#8 0xAD#8 0x98#8, 0x00000701#32) := by decide

theorem test_rd_crc_in : got (exec .rdCrcIn { bench with crcIn := CrcIn.mk 0xDE#8 0xAD#8 0x98#8 }) (fun t => t.hostData) = some (some 0x00DEAD98#32) := by decide

theorem test_rd_crc_out : got (exec .rdCrcOut { bench with crcIn := CrcIn.mk 0xDE#8 0xAD#8 0x98#8 }) (fun t => t.hostData) = some (some 0x00000198#32) := by decide +kernel

theorem test_rd_crc_out_reset : got (exec .rdCrcOut bench) (fun t => t.hostData) = some (some 0x00000081#32) := by decide +kernel

theorem test_wr_ro_status : exec (.wrRoStatus 0xFFFFFFFF#32) bench = .next bench := by rfl

theorem test_wr_ro_raw_p : exec (.wrRoRawP 1#32) bench = .next bench := by rfl

theorem test_wr_ro_raw_s : exec (.wrRoRawS 1#32) bench = .next bench := by rfl

theorem test_wr_ro_crc_out : exec (.wrRoCrcOut 1#32) bench = .next bench := by rfl

theorem test_wr_rsv : exec (.wrRsv 0x12345678#32) bench = .next bench := by rfl

theorem test_wr_ro_err : got (exec (.wrRoErr 0#32) { bench with err := ErrReg.mk 2#3 2#4 0x20#8 }) (fun t => errWord t.err) = some 0x00002220#32 := by decide

theorem test_rd_rsv : got (exec .rdRsv (await 7#4)) (fun t => t.hostData) = some (some 0x00000000#32) := by decide

/-! ## Steps -/

/-- P1 event 6. -/
theorem test_step_poll : got (step { await 5#4 with events := [lineEvent (.r .status)] }) (fun t => (t.hostData, t.events.length)) =
    some (some 0x00000501#32, 0) := by decide

/-- P1 event 9. -/
theorem test_step_response : got (step { await 7#4 with events := [busLineEvent (.readAck 0x50#8 0x66#8)] })
    (fun t => (statusWord t, t.buf.b7, t.trace)) =
    some (0x00000801#32, 0x66#8, [Exchange.mk 0x300#11 (some 0x6650#16), Exchange.mk 0x300#11 none]) := by decide

/-- S-R1. -/
theorem test_step_reset : got (step { await 7#4 with err := ErrReg.mk 2#3 2#4 0x20#8, rawP := 0x6666#16, events := [.reset] })
    (fun t => (words t, t.rawP, t.reqV, t.trace)) = some ((0#32, 0#32), 0#16, false, []) := by decide

/-- U9. -/
theorem test_step_data_without_write : faultedWith (step { port 0x001#11 with events := [.bus 0x0008#16] }) = some .dataWithoutWrite := by decide

theorem test_step_stuck : faultedWith (step bench) = some .noEvent := by decide

/-- R41. -/
theorem test_reset_words : statusWord State.reset = 0#32 ∧ errWord State.reset.err = 0#32 ∧ crcOutWord State.reset.crcIn = 0x00000081#32 := by decide +kernel

theorem test_fetch_host : got (step (State.reset.withFetchWord 16 0x018)) (fun t => t.hostData) = some (some 0x00000081#32) := by decide +kernel

/-- R70: the first access of VALIDATE, with the second to come. -/
theorem test_fetch_query : got (step (State.reset.withFetchWord 32 0x00DEAD98)) (fun t => (t.crcIn, t.events)) =
    some (CrcIn.mk 0xDE#8 0xAD#8 0x98#8, [lineEvent (.r .crcOut)]) := by decide

theorem test_fetch_row : got (step (State.reset.withFetchWord 8 0x0D)) (fun t => t.st) = some 0#4 := by decide

/-- R43, R34: ERR stands at WINDOW_BASE + 0x10. -/
theorem test_window_address : lineAccess (.r .err) = accessAt excfg false 0x1010 4 0#32 := by decide

/-- P1 events 3 and 14. -/
theorem test_bus_line : busLineWords (.readNack 0x58#8 0x92#8) = (0x400#11, 0x9258#16) ∧ busLineWords (.write 0x88#8 0x18#8) = (0x288#11, 0x0018#16) := by decide

/-- R69: its two examples. -/
theorem test_bus_text : busText (.write 0x88#8 0x18#8) = "WRITE 0x88 => 0x18" ∧ busText (.readAck 0x50#8 0x66#8) = "READ_ACK => 0x50 0x66" := by decide +kernel

/-- R89, R90: the lines of their examples. -/
theorem test_host_text : hostText (.w .ctrl 1#32) none = "W CTRL, 0x00000001" ∧ hostText (.r .crcOut) (some 0x198#32) = "R CRC_OUT -> 0x00000198" := by decide +kernel

/-! ## The host's contract: R70, R131, R133, with the vectors' events -/

/-- What a piece of the host's program shows when it is over: its value. -/
def valueOf {α : Type} (r : HostResult α) : Option α :=
  match r with
  | .done a _ => some a
  | .waiting _ | .notIssued _ | .fault _ | .refused _ => none

/-- What a piece of the host's program shows while it waits: the last word read. -/
def waitsWith {α : Type} (r : HostResult α) : Option (Option Word) :=
  match r with
  | .waiting s => some s.hostData
  | .done _ _ | .notIssued _ | .fault _ | .refused _ => none

/-- S-H1: every poll returns 0x00000501. -/
theorem test_wait_idle_hang : waitsWith (waitIdle [0, 0, 0] (await 5#4)) = some (some 0x00000501#32) := by decide

/-- P2 event 5. -/
theorem test_wait_idle_done : valueOf (waitIdle [0] { bench with outcome := 2#2 }) = some 0x00000004#32 := by decide

/-- P1, with one poll while busy and one after the STOP response. -/
theorem test_protocol_ok : valueOf (protocol [0, 13] 0 0 { bench with events := p1Answers }) =
    some (.reading { primaryValue := 0x6666#16, secondaryValue := 0xBEEF#16 }) := by decide +kernel

/-- P2. -/
theorem test_protocol_bus_fail : valueOf (protocol [3] 0 0 { bench with events := p2Answers }) = some (.busFail 2#3 2#4 0x20#8) := by decide +kernel

/-- R131, R134: GO only when BUSY = 0. -/
theorem test_protocol_while_busy : protocol [0] 0 0 (await 3#4) = .notIssued (await 3#4) := by decide

/-- R133, U18; P2 event 8: the block reads back the stale value. -/
theorem test_stale_raw : useRaw 0 { bench with outcome := 2#2, rawP := 0x6666#16 } = .fault .staleRaw ∧
    valueOf (hostRead .rawP { bench with outcome := 2#2, rawP := 0x6666#16 }) = some 0x00006666#32 := by decide

/-- V-CONV. -/
theorem test_conversion : primaryPhysical 0x0000#16 = -49 ∧ secondaryPhysical 0xFFFF#16 = 100 ∧ primaryPhysical 0x6666#16 = 77 ∧
    secondaryPhysical 0x6666#16 = 40 ∧ primaryPhysical 0x8000#16 = 474047 / 4369 := by norm_num [primaryPhysical, secondaryPhysical]

/-! ## Witnesses: the hypotheses of each statement can be met, clause by clause -/

/-- Events placed before a state. -/
def withEvents (s : State) (es : List Event) : State := { s with events := es }

/-- Twelve matching responses with these data bytes (EXCFG). -/
def answers (b : Buffer) (k : TransactionStep) : RspWord :=
  (match k with
    | .s7 => b.b7
    | .s8 => b.b8
    | .s9 => b.b9
    | .s10 => b.b10
    | .s11 => b.b11
    | .s12 => b.b12
    | .s1 | .s2 | .s3 | .s4 | .s5 | .s6 => 0x00#8) ++ expected excfg k

theorem witness_DecodeEncodeAgree :
    (Instr.validate 0xFF#8 0#8 0xFF#8).wf = true ∧ (Code.blReq 0x2FF#11 0xFFFF#16).wf = true ∧
      (Code.blReq 0x600#11 0#16).wf = true ∧ (Code.hostAcc 0x01C#9 0xFFFFFFFF#32).wf = true ∧
      (Code.hostAcc 0x11C#9 0#32).wf = true ∧ (Code.stepRom 1#4 0#16).wf = true ∧ (Code.stepRom 13#4 0#16).wf = true ∧
      (Code.crcIn 0x00FFFFFF#32).wf = true := by
  decide

theorem witness_DecodeRejectsExactlyTheReserved :
    (0x7FF#11).extractLsb' 8 3 = 7#3 ∧ (0x6FF#11).extractLsb' 8 3 ≠ 7#3 ∧ (0x01F#9).extractLsb' 0 2 ≠ 0#2 ∧
      (0x020#9).extractLsb' 5 3 ≠ 0#3 ∧ (0x01C#9).extractLsb' 5 3 = 0#3 ∧ (0x01000000#32).extractLsb' 24 8 ≠ 0#8 := by
  decide

theorem witness_RequestDataIgnoredUnlessWrite :
    (0x0FF#11).extractLsb' 8 3 = (0x000#11).extractLsb' 8 3 ∧ (0x0FF#11).extractLsb' 8 3 ≠ 2#3 := by
  decide

theorem witness_BusLinkOpsAnswerTheirRequest :
    (port 0x000#11).reqV = true ∧ (port 0x000#11).trace = [] ++ [Exchange.mk 0x000#11 none] ∧
      (port 0x000#11).req.extractLsb' 8 3 = 0#3 ∧ (port 0x1FF#11).req.extractLsb' 8 3 = 1#3 ∧
      (port 0x2FF#11).req = 0b010#3 ++ 0xFF#8 ∧ (port 0x300#11).req.extractLsb' 8 3 = 3#3 ∧
      (port 0x400#11).req.extractLsb' 8 3 = 4#3 ∧ (port 0x500#11).req.extractLsb' 8 3 = 5#3 ∧
      (port 0x600#11).req.extractLsb' 8 3 = 6#3 := by
  decide

theorem witness_BusLinkOpsStopWithoutTheirRequest :
    bench.reqV = false ∧ (port 0x700#11).reqV = true ∧ (port 0x700#11).req.extractLsb' 8 3 ≠ 0#3 ∧
      (port 0x700#11).req.extractLsb' 8 3 ≠ 1#3 ∧ (port 0x288#11).req ≠ 0b010#3 ++ 0x89#8 ∧
      (port 0x700#11).req.extractLsb' 8 3 ≠ 3#3 ∧ (port 0x700#11).req.extractLsb' 8 3 ≠ 4#3 ∧
      (port 0x700#11).req.extractLsb' 8 3 ≠ 5#3 ∧ (port 0x700#11).req.extractLsb' 8 3 ≠ 6#3 := by
  decide

theorem witness_GoAcceptedIssuesStart :
    (0xFFFFFFFF#32).getLsbD 0 = true ∧ bench.st = 0#4 := by
  decide

theorem witness_GoWhileBusyIgnored :
    (0x00000001#32).getLsbD 0 = true ∧ (await 1#4).st ≠ 0#4 ∧ (await 13#4).st ≠ 0#4 := by
  decide

theorem witness_CtrlWriteReadsOnlyBitZero :
    (0xFFFFFFFE#32).getLsbD 0 = false ∧ (0xFFFFFFFF#32).getLsbD 0 = (0x00000001#32).getLsbD 0 := by
  decide

theorem witness_OtherHostAccessesRefused :
    (withEvents bench [.host (HostAccess.mk false 32 4 0#32)]).events = .host (HostAccess.mk false 32 4 0#32) :: [] ∧
      foundFault (withEvents bench [.host (HostAccess.mk false 32 4 0#32)]) = none ∧
      ((HostAccess.mk false 32 4 0#32).off < 0 ∨ 32 ≤ (HostAccess.mk false 32 4 0#32).off) ∧
      (0 ≤ (HostAccess.mk true 31 2 0#32).off ∧ (HostAccess.mk true 31 2 0#32).off < 32 ∧
        (HostAccess.mk true 31 2 0#32).width ≠ 4) ∧
      (0 ≤ (HostAccess.mk true 31 4 0#32).off ∧ (HostAccess.mk true 31 4 0#32).off < 32 ∧
        (HostAccess.mk true 31 4 0#32).width = 4 ∧ (HostAccess.mk true 31 4 0#32).off % 4 ≠ 0) := by
  decide

theorem witness_HostEventFrame :
    onlyHost (lineEvent goLine) = true ∧ onlyHost (lineEvent (.w .crcIn 5#32)) = true ∧
      (got (step (withEvents bench [lineEvent goLine])) (fun t => t.st) = some 1#4) ∧
      (got (step (withEvents (await 3#4) [lineEvent (.w .crcIn 5#32)])) (fun t => (t.st, t.crcIn.chk)) = some (3#4, 5#8)) := by
  decide

theorem witness_SingleBitCorruptionDetected :
    0 < 8 ∧ 7 < 8 ∧ validate 0xDE#8 0xAD#8 0x98#8 = true := by
  decide +kernel

theorem witness_FailureClassTable :
    stepNum .s1 ∈ [1#4, 5#4] ∧ stepNum .s5 ∈ [1#4, 5#4] ∧ stepNum .s6 ∈ [2#4, 6#4] ∧ stepNum .s4 ∈ [3#4, 4#4] ∧
      7 ≤ (stepNum .s7).toNat ∧ 7 ≤ (stepNum .s12).toNat := by
  decide

theorem witness_StopPolicyTable :
    (answered 12#4).st = 12#4 := by
  decide

theorem witness_MatchedStepsOneToSix :
    ((answered 1#4).st = 1#4 ∧ 0x08#8 = (answered 1#4).cfg.expStart) ∧ ((answered 2#4).st = 2#4 ∧ 0x18#8 = (answered 2#4).cfg.expSlaWAck) ∧
      ((answered 3#4).st = 3#4 ∧ 0x28#8 = (answered 3#4).cfg.expDataWAck) ∧ ((answered 4#4).st = 4#4 ∧ 0x28#8 = (answered 4#4).cfg.expDataWAck) ∧
      ((answered 5#4).st = 5#4 ∧ 0x08#8 = (answered 5#4).cfg.expStart) ∧ ((answered 6#4).st = 6#4 ∧ 0x40#8 = (answered 6#4).cfg.expSlaRAck) := by
  decide

theorem witness_MatchedReadStepsStore :
    0x50#8 = excfg.expDataRAck ∧ ((answered 7#4).st = 7#4 ∧ (answered 7#4).cfg = excfg) ∧
      ((answered 8#4).st = 8#4 ∧ (answered 8#4).cfg = excfg) ∧
      ((answered 9#4).st = 9#4 ∧ (answered 9#4).cfg = excfg) ∧
      ((answered 10#4).st = 10#4 ∧ (answered 10#4).cfg = excfg) ∧
      ((answered 11#4).st = 11#4 ∧ (answered 11#4).cfg = excfg) := by
  decide

theorem witness_MatchedStepTwelveLatches :
    (answered 12#4).st = 12#4 ∧ 0x58#8 = (answered 12#4).cfg.expDataRNack := by
  decide

theorem witness_MismatchWithStopEntersClose :
    (answered 1#4).st = stepNum .s1 ∧ 0x09#8 ≠ expected (answered 1#4).cfg .s1 ∧ stopAfterFail (answered 1#4).cfg.stopPolicy .s1 = true ∧
      (answered 12#4).st = stepNum .s12 ∧ 0x50#8 ≠ expected (answered 12#4).cfg .s12 ∧ stopAfterFail (answered 12#4).cfg.stopPolicy .s12 = true := by
  decide

theorem witness_MismatchWithoutStopFinishes :
    (answered 5#4).st = stepNum .s5 ∧ 0x10#8 ≠ expected excfgSource .s5 ∧ stopAfterFail excfgSource.stopPolicy .s5 = false ∧
      (answered 12#4).st = stepNum .s12 ∧ 0x50#8 ≠ expected excfgSource .s12 ∧ stopAfterFail excfgSource.stopPolicy .s12 = false := by
  decide

theorem witness_CloseCompletionPublishes :
    (closing (bytes 0x66#8 0x66#8 0x93#8 0xBE#8 0xEF#8 0x92#8)).st = 13#4 ∧
      (closing (bytes 0x66#8 0x66#8 0x93#8 0xBE#8 0xEF#8 0x92#8)).pOk = true ∧
      crc8 0x66#8 0x66#8 = 0x93#8 ∧ crc8 0xBE#8 0xEF#8 = 0x92#8 ∧ ¬ crc8 0xBE#8 0xEF#8 = 0x93#8 ∧
      (closingFailed 1#4 0#8).st = 13#4 ∧ (closingFailed 1#4 0#8).pOk = false ∧ (closingFailed 1#4 0#8).pStep = stepNum .s1 ∧
      (closingFailed 12#4 0#8).pStep = stepNum .s12 := by
  decide +kernel

theorem witness_StepRowsStopOffTheirState :
    (answered 2#4).st ≠ stepNum .s1 ∧ bench.st ≠ 13#4 ∧ (answered 12#4).st ≠ 13#4 ∧
      (closingFailed 0#4 0#8).st = 13#4 ∧ (closingFailed 0#4 0#8).pOk = false ∧ (closingFailed 0#4 0#8).pStep = 0#4 ∧
      13 ≤ (closingFailed 13#4 0#8).pStep.toNat ∧ 13 ≤ (closingFailed 15#4 0#8).pStep.toNat := by
  decide

theorem witness_IgnoredResponseFields :
    (stepNum .s1).toNat ≤ 6 ∧ (stepNum .s6).toNat ≤ 6 ∧ 0x58#8 ≠ expected (answered 7#4).cfg .s7 := by
  decide

theorem witness_StepRunsHostOperation :
    foundFault (withEvents bench [lineEvent (.r .rsv)]) = none ∧
      (withEvents bench [lineEvent (.r .rsv)]).events = .host (lineAccess (.r .rsv)) :: [] ∧
      (lineAccess (.r .rsv)).refusal = none ∧ (lineAccess (.w .ctrl 1#32)).refusal = none ∧
      (withEvents (await 13#4) ((validateLines 0xFF#8 0xFF#8 0xFF#8).map lineEvent ++ [.reset])).events =
        (validateLines 0xFF#8 0xFF#8 0xFF#8).map lineEvent ++ [.reset] ∧
      got (Sys2Proof.core.run 2 (withEvents (await 13#4) ((validateLines 0xDE#8 0xAD#8 0x98#8).map lineEvent)))
        (fun t => t.hostData) = some (some 0x00000198#32) := by
  decide +kernel

theorem witness_StepRunsBusResponse :
    foundFault (withEvents (await 13#4) [.bus 0#16]) = none ∧ (withEvents (await 13#4) [.bus 0#16]).events = .bus 0#16 :: [] ∧
      (await 13#4).reqV = true ∧ decode (.blReq (await 13#4).req 0#16) = .ok (.stop 0#16) ∧
      (await 13#4).req.extractLsb' 0 8 = 0x00#8 ∧ (await 2#4).req.extractLsb' 8 3 = 2#3 ∧
      got (exec (.stop 0#16) (withEvents (await 13#4) [])) (fun t => t.st) = some 13#4 ∧
      decode (.stepRom 13#4 0#16) = .ok (.seqClose 0#16) ∧
      got (exec (.start 0#16) (port 0x000#11)) (fun t => t.st) = some 0#4 := by
  decide

theorem witness_StepWithoutAnEnabledEvent :
    bench.events = [] ∧ foundFault (withEvents bench [.bus 0#16]) = none ∧
      (withEvents bench [.bus 0#16]).events = .bus 0#16 :: [] ∧ (withEvents bench [.bus 0#16]).reqV = false ∧
      foundFault (withEvents (port 0x700#11) [.bus 0#16]) = none ∧ (port 0x700#11).reqV = true ∧
      (port 0x700#11).req.extractLsb' 8 3 = 7#3 ∧ foundFault (withEvents (port 0x001#11) [.bus 0#16]) = none ∧
      (port 0x001#11).req.extractLsb' 8 3 ≠ 7#3 ∧ (port 0x001#11).req.extractLsb' 8 3 ≠ 2#3 ∧
      (port 0x001#11).req.extractLsb' 0 8 ≠ 0x00#8 ∧ (port 0x6FF#11).req.extractLsb' 8 3 ≠ 7#3 := by
  decide

theorem witness_StepFaultsOnUnreachableState :
    (withEvents { bench with st := 14#4 } [lineEvent goLine]).events = lineEvent goLine :: [] ∧ lineEvent goLine ≠ .reset ∧
      14 ≤ ({ bench with st := 14#4 } : State).st.toNat ∧ bench.st.toNat < 14 ∧
      6 ≤ ({ bench with err := ErrReg.mk 6#3 1#4 0#8 } : State).err.kind.toNat ∧
      14 ≤ ({ bench with err := ErrReg.mk 1#3 14#4 0#8 } : State).err.step.toNat := by
  decide

theorem witness_ResetEventSetsResetValues :
    (withEvents (await 7#4) [.reset]).events = .reset :: [] := by
  rfl

/-- Right after reset under EXCFG the invariant holds. -/
theorem bench_inv (es : List Event) : (withEvents bench es).Inv := by
  constructor <;> simp [withEvents, bench, State.reset, ErrReg.Consistent]

/-- While step k is awaited the invariant holds. -/
theorem await_inv (k : TransactionStep) (es : List Event) : (withEvents (await (stepNum k)) es).Inv := by
  have hq : requestAt (stepNum k) = romReq k := by simp [requestAt, stepOfNum_stepNum]
  constructor
  case stReached => exact Nat.le_succ_of_le (stepNum_le k)
  case traceWords =>
    intro e he
    simp only [withEvents, await, List.mem_singleton] at he
    subst he
    simp only [hq]
    cases k <;> decide
  case traceLast => intro _; exact ⟨[], rfl, by simp⟩
  case closeLatch => intro h; exact absurd h (stepNum_ne_close k)
  case traceIdle => intro h; exact absurd h (stepNum_ne_zero k)
  all_goals simp [withEvents, await, bench, State.reset, ErrReg.Consistent, stepNum_ne_zero]

/-- In CLOSE after a failed step 2 the invariant holds. -/
theorem close_inv (es : List Event) :
    (withEvents { await 13#4 with pOk := false, pStep := 2#4, pStatus := 0x20#8 } es).Inv := by
  constructor
  case closeLatch => intro _; exact .inr ⟨rfl, .s2, rfl, rfl, (by decide : (0x20#8 : Byte) ≠ 0x18#8)⟩
  case traceWords =>
    intro e he
    simp only [withEvents, await, List.mem_singleton] at he
    subst he
    decide
  case traceLast => intro _; exact ⟨[], rfl, by simp⟩
  all_goals simp [withEvents, await, bench, State.reset, ErrReg.Consistent]

theorem witness_InvariantKeptByEveryStep :
    ((withEvents (await 1#4) [.bus 0x0008#16]).Inv ∧ got (step (withEvents (await 1#4) [.bus 0x0008#16])) (fun t => t.st) = some 2#4) ∧
      ((withEvents bench [lineEvent goLine]).Inv ∧ got (step (withEvents bench [lineEvent goLine])) (fun t => t.st) = some 1#4) := by
  exact ⟨⟨await_inv .s1 _, by decide⟩, bench_inv _, by decide⟩

theorem witness_AllowedEventsProceed :
    ((withEvents bench [lineEvent goLine]).Inv ∧ allowed (withEvents bench [lineEvent goLine]) (lineEvent goLine) = true) ∧
      ((withEvents bench [lineEvent (.r .rsv)]).Inv ∧ allowed bench (lineEvent (.r .rsv)) = true) ∧
      ((withEvents (await 12#4) [.bus 0#16]).Inv ∧ allowed (withEvents (await 12#4) [.bus 0#16]) (.bus 0#16) = true) ∧
      ((withEvents { await 13#4 with pOk := false, pStep := 2#4, pStatus := 0x20#8 } [.bus 0#16]).Inv ∧
        allowed (await 13#4) (.bus 0#16) = true) ∧
      ((withEvents (await 7#4) [.reset]).Inv ∧ allowed (await 7#4) .reset = true) := by
  exact ⟨⟨bench_inv _, by decide⟩, ⟨bench_inv _, by decide⟩, ⟨await_inv .s12 _, by decide⟩, ⟨close_inv _, by decide⟩,
    await_inv .s7 _, by decide⟩

theorem witness_OnlyResponseOrResetMovesBusySequencer :
    (withEvents (await 3#4) [lineEvent goLine]).st ≠ 0#4 ∧
      (withEvents (await 3#4) [lineEvent goLine]).events = lineEvent goLine :: [] ∧
      got (step (withEvents (await 3#4) [lineEvent goLine])) (fun t => t.st) = some 3#4 ∧
      got (step (withEvents (await 3#4) [.bus 0x0028#16])) (fun t => t.st) = some 4#4 := by
  decide

theorem witness_OutcomeStableWhileIdle :
    (withEvents bench [lineEvent (.r .status)]).Inv ∧ (withEvents bench [lineEvent (.r .status)]).st = 0#4 ∧
      lineEvent (.r .status) ≠ .reset ∧ got (step (withEvents bench [lineEvent (.r .status)])) (fun t => t.st) = some 0#4 := by
  exact ⟨bench_inv _, by decide, by decide, by decide⟩

theorem witness_RawWrittenOnlyBySuccess :
    bench.rawP = 0#16 ∧ got (step (withEvents { closing (bytes 0x66#8 0x66#8 0x93#8 0xBE#8 0xEF#8 0x92#8) with reqV := true } [.bus 0#16]))
      (fun t => (t.rawP, t.rawS)) = some (0x6666#16, 0xBEEF#16) := by
  decide +kernel

theorem witness_ErrWrittenOnlyByFailure :
    errWord bench.err = 0#32 ∧
      got (step (withEvents { closingFailed 2#4 0x20#8 with reqV := true } [.bus 0#16])) (fun t => errWord t.err) = some 0x00002220#32 ∧
      got (step (withEvents { closing (bytes 0x66#8 0x66#8 0x93#8 0xBE#8 0xEF#8 0x93#8) with reqV := true } [.bus 0#16]))
        (fun t => errWord t.err) = some 0x00005D58#32 := by
  decide +kernel

theorem witness_BufferWrittenOnlyByMatchingRead :
    (await 7#4).buf.b7 = 0#8 ∧ got (step (withEvents (await 7#4) [.bus 0x6650#16])) (fun t => t.buf.b7) = some 0x66#8 ∧
      got (step (withEvents (await 12#4) [.bus 0x9258#16])) (fun t => t.buf.b12) = some 0x92#8 := by
  decide

theorem witness_CrcInWrittenOnlyByHost :
    bench.crcIn.high = 0#8 ∧
      got (step (withEvents (await 7#4) [lineEvent (.w .crcIn 0x00DEAD98#32)])) (fun t => t.crcIn.high) = some 0xDE#8 ∧
      got (step (withEvents { bench with crcIn := CrcIn.mk 1#8 2#8 3#8 } [.reset])) (fun t => t.crcIn.high) = some 0#8 := by
  decide

theorem witness_ParametersNeverChange :
    got (step (withEvents bench [lineEvent goLine, .reset])) (fun t => (t.cfg == excfg, t.events.length)) = some (true, 1) := by
  decide

theorem witness_TraceGrowsByOneRequest :
    got (step (withEvents bench [lineEvent goLine])) (fun t => t.trace.map Exchange.req) = some [0x000#11] ∧
      got (step (withEvents (await 1#4) [.bus 0x0008#16])) (fun t => t.trace.map Exchange.req) = some [0x000#11, 0x288#11] := by
  decide

/-- P1: the bytes of a successful transaction. -/
def p1Bytes : Buffer := bytes 0x66#8 0x66#8 0x93#8 0xBE#8 0xEF#8 0x92#8

/-- P3: the same with a wrong secondary checksum. -/
def p3Bytes : Buffer := bytes 0x66#8 0x66#8 0x93#8 0xBE#8 0xEF#8 0x93#8

/-- A whole transaction before the bench. -/
def placed (b : Buffer) : State :=
  withEvents bench (lineEvent goLine :: (allSteps.map (fun k => Event.bus (answers b k)) ++ Event.bus 0#16 :: []))

theorem witness_SuccessfulTransaction :
    foundFault (placed p1Bytes) = none ∧ (placed p1Bytes).st = 0#4 ∧
      (placed p1Bytes).events = lineEvent goLine :: (allSteps.map (fun k => Event.bus (answers p1Bytes k)) ++ Event.bus 0#16 :: []) ∧
      (∀ k, rspStatus (answers p1Bytes k) = expected (placed p1Bytes).cfg k) ∧
      (rspRdata (answers p1Bytes .s7), rspRdata (answers p1Bytes .s8), rspRdata (answers p1Bytes .s9), rspRdata (answers p1Bytes .s10),
        rspRdata (answers p1Bytes .s11), rspRdata (answers p1Bytes .s12)) = (p1Bytes.b7, p1Bytes.b8, p1Bytes.b9, p1Bytes.b10, p1Bytes.b11, p1Bytes.b12) ∧
      validate p1Bytes.b7 p1Bytes.b8 p1Bytes.b9 = true ∧ validate p1Bytes.b10 p1Bytes.b11 p1Bytes.b12 = true := by
  refine ⟨by decide, by decide, rfl, fun k => by cases k <;> decide, by decide, by decide +kernel⟩

theorem witness_ChecksumFailureTransaction :
    foundFault (placed p3Bytes) = none ∧ (placed p3Bytes).st = 0#4 ∧
      (placed p3Bytes).events = lineEvent goLine :: (allSteps.map (fun k => Event.bus (answers p3Bytes k)) ++ Event.bus 0#16 :: []) ∧
      (∀ k, rspStatus (answers p3Bytes k) = expected (placed p3Bytes).cfg k) ∧
      (rspRdata (answers p3Bytes .s7), rspRdata (answers p3Bytes .s8), rspRdata (answers p3Bytes .s9), rspRdata (answers p3Bytes .s10),
        rspRdata (answers p3Bytes .s11), rspRdata (answers p3Bytes .s12)) = (p3Bytes.b7, p3Bytes.b8, p3Bytes.b9, p3Bytes.b10, p3Bytes.b11, p3Bytes.b12) ∧
      (validate p3Bytes.b7 p3Bytes.b8 p3Bytes.b9 && validate p3Bytes.b10 p3Bytes.b11 p3Bytes.b12) = false := by
  refine ⟨by decide, by decide, rfl, fun k => by cases k <;> decide, by decide, by decide +kernel⟩

/-- Matching responses but for one step (EXCFG). -/
def failing (bad : TransactionStep) (status : Byte) (k : TransactionStep) : RspWord :=
  0x00#8 ++ (if k = bad then status else expected excfg k)

/-- A transaction that fails at step n + 1, before the bench. -/
def placedFailing (p : Params) (n : Nat) (bad : TransactionStep) (status : Byte) : State :=
  { bench with
    cfg := p
    events := lineEvent goLine :: ((allSteps.take (n + 1)).map (fun j => Event.bus (failing bad status j)) ++
      ((if stopAfterFail p.stopPolicy bad then [Event.bus 0#16] else []) ++ [])) }

theorem witness_FailFastTransaction_stop :
    foundFault (placedFailing excfg 1 .s2 0x20#8) = none ∧ (placedFailing excfg 1 .s2 0x20#8).st = 0#4 ∧ allSteps[1]? = some .s2 ∧
      (∀ j ∈ allSteps.take 1, rspStatus (failing .s2 0x20#8 j) = expected (placedFailing excfg 1 .s2 0x20#8).cfg j) ∧
      rspStatus (failing .s2 0x20#8 .s2) ≠ expected (placedFailing excfg 1 .s2 0x20#8).cfg .s2 ∧
      (placedFailing excfg 1 .s2 0x20#8).events = lineEvent goLine :: ((allSteps.take (1 + 1)).map (fun j => Event.bus (failing .s2 0x20#8 j)) ++
        ((if stopAfterFail (placedFailing excfg 1 .s2 0x20#8).cfg.stopPolicy .s2 then [Event.bus 0#16] else []) ++ [])) := by
  exact ⟨by decide, by decide, by decide, by decide, by decide, rfl⟩

theorem witness_FailFastTransaction_no_stop_first :
    foundFault (placedFailing excfgSource 0 .s1 0x00#8) = none ∧ (placedFailing excfgSource 0 .s1 0x00#8).st = 0#4 ∧ allSteps[0]? = some .s1 ∧
      (∀ j ∈ allSteps.take 0, rspStatus (failing .s1 0x00#8 j) = expected (placedFailing excfgSource 0 .s1 0x00#8).cfg j) ∧
      rspStatus (failing .s1 0x00#8 .s1) ≠ expected (placedFailing excfgSource 0 .s1 0x00#8).cfg .s1 ∧
      (placedFailing excfgSource 0 .s1 0x00#8).events = lineEvent goLine :: ((allSteps.take (0 + 1)).map (fun j => Event.bus (failing .s1 0x00#8 j)) ++
        ((if stopAfterFail (placedFailing excfgSource 0 .s1 0x00#8).cfg.stopPolicy .s1 then [Event.bus 0#16] else []) ++ [])) := by
  exact ⟨by decide, by decide, by decide, by decide, by decide, rfl⟩

theorem witness_FailFastTransaction_no_stop_last :
    foundFault (placedFailing excfgSource 11 .s12 0x50#8) = none ∧ (placedFailing excfgSource 11 .s12 0x50#8).st = 0#4 ∧ allSteps[11]? = some .s12 ∧
      (∀ j ∈ allSteps.take 11, rspStatus (failing .s12 0x50#8 j) = expected (placedFailing excfgSource 11 .s12 0x50#8).cfg j) ∧
      rspStatus (failing .s12 0x50#8 .s12) ≠ expected (placedFailing excfgSource 11 .s12 0x50#8).cfg .s12 ∧
      (placedFailing excfgSource 11 .s12 0x50#8).events = lineEvent goLine :: ((allSteps.take (11 + 1)).map (fun j => Event.bus (failing .s12 0x50#8 j)) ++
        ((if stopAfterFail (placedFailing excfgSource 11 .s12 0x50#8).cfg.stopPolicy .s12 then [Event.bus 0#16] else []) ++ [])) := by
  exact ⟨by decide, by decide, by decide, by decide, by decide, rfl⟩

theorem witness_FailFastTransaction_stop_last :
    foundFault (placedFailing excfg 11 .s12 0x50#8) = none ∧ (placedFailing excfg 11 .s12 0x50#8).st = 0#4 ∧ allSteps[11]? = some .s12 ∧
      (∀ j ∈ allSteps.take 11, rspStatus (failing .s12 0x50#8 j) = expected (placedFailing excfg 11 .s12 0x50#8).cfg j) ∧
      rspStatus (failing .s12 0x50#8 .s12) ≠ expected (placedFailing excfg 11 .s12 0x50#8).cfg .s12 ∧
      (placedFailing excfg 11 .s12 0x50#8).events = lineEvent goLine :: ((allSteps.take (11 + 1)).map (fun j => Event.bus (failing .s12 0x50#8 j)) ++
        ((if stopAfterFail (placedFailing excfg 11 .s12 0x50#8).cfg.stopPolicy .s12 then [Event.bus 0#16] else []) ++ [])) := by
  exact ⟨by decide, by decide, by decide, by decide, by decide, rfl⟩

theorem witness_HangLastsUntilResponseOrReset :
    (await 5#4).st ≠ 0#4 ∧ (∀ e ∈ [lineEvent (.r .status), lineEvent goLine], onlyHost e = true) ∧
      got (Sys2Proof.core.run 2 (withEvents (await 5#4) [lineEvent (.r .status), lineEvent goLine])) (fun t => t.st) = some 5#4 := by
  decide

theorem witness_HostEventsInterleaveFreely :
    (await 3#4).st ≠ 0#4 ∧ onlyHost (lineEvent (.w .crcIn 0x00DEAD98#32)) = true ∧
      got (Sys2Proof.core.run 2 (withEvents (await 3#4) [lineEvent (.w .crcIn 0x00DEAD98#32), .bus 0x0028#16]))
        (fun t => (t.st, t.crcIn.high)) = some (4#4, 0xDE#8) ∧
      got (step (withEvents (await 3#4) [.bus 0x0028#16])) (fun t => t.st) = some 4#4 := by
  decide

theorem witness_WaitIdleEndsExactlyWhenIdle :
    valueOf (waitIdle [0, 2] (withEvents (await 12#4) [.bus 0x0050#16, .bus 0#16])) = some 0x00000004#32 ∧
      (foundFault bench = none ∧ bench.st = 0#4) ∧
      (foundFault (withEvents (await 5#4) [lineEvent (.r .rsv), lineEvent goLine]) = none ∧
        (withEvents (await 5#4) [lineEvent (.r .rsv), lineEvent goLine]).st ≠ 0#4 ∧
        ∀ e ∈ [lineEvent (.r .rsv), lineEvent goLine], onlyHost e = true ∧ allowed (await 5#4) e = true) := by
  decide

theorem witness_ProtocolReportsTheOutcome :
    (await 1#4).st ≠ 0#4 ∧ (await 13#4).st ≠ 0#4 ∧
      valueOf (protocol [13] 0 0 { bench with events := p1Answers }) =
        some (.reading { primaryValue := 0x6666#16, secondaryValue := 0xBEEF#16 }) ∧
      valueOf (protocol [3] 0 0 { bench with events := p2Answers }) = some (.busFail 2#3 2#4 0x20#8) := by
  decide +kernel

theorem witness_StaleRawIsAHostFault :
    bench.outcome ≠ 1#2 ∧ ({ bench with outcome := 3#2 } : State).outcome ≠ 1#2 ∧
      foundFault { bench with outcome := 1#2 } = none ∧ ({ bench with outcome := 1#2 } : State).outcome = 1#2 ∧
      foundFault { bench with outcome := 2#2 } = none := by
  decide

theorem witness_CollectReportsTheOutcome :
    bench.outcome = 0#2 ∧ ({ bench with outcome := 1#2 } : State).outcome = 1#2 ∧
      ({ bench with outcome := 2#2 } : State).outcome = 2#2 ∧ ({ bench with outcome := 3#2 } : State).outcome = 3#2 := by
  decide

end Sys2Proof.Tests
end

section
/-! PROOFS. Scope of the unit (spec/00_scope.md): the words of the window, and the rows of the step ROM. -/

namespace Sys2Proof.Proofs.Scope

open Sys2Proof Sys2Proof.Machine

/-! ## The window at WINDOW_BASE -/

section
variable (p : Params) (isWrite : Bool) (addr width : Nat) (data : Word)

@[simp] theorem accessAt_off : (accessAt p isWrite addr width data).off = (addr : Int) - p.windowBase := rfl

@[simp] theorem accessAt_width : (accessAt p isWrite addr width data).width = width := rfl

end

/-- The signed offsets of the window's words are the addresses of its words: an address below the base has a negative
offset, and from the base on the offset is the natural difference (R43). -/
theorem offset_word_iff (base addr : Nat) :
    (0 ≤ (addr : Int) - base ∧ (addr : Int) - base < 32 ∧ ((addr : Int) - base) % 4 = 0) ↔
      base ≤ addr ∧ addr < base + 32 ∧ (addr - base) % 4 = 0 := by
  rcases Nat.lt_or_ge addr base with hbelow | hbase
  · constructor
    · rintro ⟨hnonneg, -, -⟩; omega
    · rintro ⟨hle, -, -⟩; omega
  · rw [← Nat.cast_sub hbase]
    omega

/-- Settles O17: the refusals of R46 leave the aligned words of the window, whose offsets are those of R43. -/
theorem windowAdmitsExactlyItsWords : Obligations.WindowAdmitsExactlyItsWords := by
  intro p isWrite addr width data
  have hword := offset_word_iff p.windowBase addr
  rw [refusal_none_iff, accessAt_off, accessAt_width]
  tauto

/-! ## The rows of the step ROM -/

/-- R31, R62: the column k. -/
theorem allSteps_map_stepNum : allSteps.map stepNum =
    [1#4, 2#4, 3#4, 4#4, 5#4, 6#4, 7#4, 8#4, 9#4, 10#4, 11#4, 12#4] := rfl

/-- R62: the column "request word", with the bytes of SLA_W, the command and SLA_R in it (R61). -/
theorem allSteps_map_romReq : allSteps.map romReq =
    [0x000#11, 0x288#11, 0x22C#11, 0x206#11, 0x100#11, 0x289#11,
      0x300#11, 0x300#11, 0x300#11, 0x300#11, 0x300#11, 0x400#11] := by decide

/-- R7-R12, R62: the column EXP(k), under any parameters. -/
theorem allSteps_map_expected (p : Params) : allSteps.map (expected p) =
    [p.expStart, p.expSlaWAck, p.expDataWAck, p.expDataWAck, p.expStart, p.expSlaRAck,
      p.expDataRAck, p.expDataRAck, p.expDataRAck, p.expDataRAck, p.expDataRAck, p.expDataRNack] := rfl

theorem mem_allSteps (k : TransactionStep) : k ∈ allSteps := by cases k <;> decide

/-- Settles O22: the three columns of the step ROM, and that it has no other row. -/
theorem stepRomRows : Obligations.StepRomRows :=
  ⟨allSteps_map_stepNum, allSteps_map_romReq, allSteps_map_expected, mem_allSteps⟩

end Sys2Proof.Proofs.Scope
end

section
/-! PROOFS. The invariant of the block (spec/10_state.md R21-R31; R59, R116): it holds at reset, and every step keeps it. -/

namespace Sys2Proof.Proofs.Invariant

open Sys2Proof Sys2Proof.Machine

/-! ## The parts of the invariant -/

/-- What the invariant says of ERR and TRACE while no request is outstanding: between transactions, and between the answer of
the BUS agent and SEQ's reaction to it. -/
structure Quiet (err : ErrReg) (trace : List Exchange) : Prop where
  errConsistent : err.Consistent
  traceWords : ∀ e ∈ trace, e.req ∈ portWords
  traceAnswered : ∀ e ∈ trace, e.rsp ≠ none

/-- What the latches hold in CLOSE: a matched step 12, or a failed step that the policy follows with a stop. -/
def CloseRecord (s : State) : Prop :=
  (s.pOk = true ∧ s.pStep = 12#4 ∧ s.pStatus = s.cfg.expDataRNack) ∨
  (s.pOk = false ∧ ∃ k : TransactionStep, s.pStep = stepNum k ∧
    stopAfterFail s.cfg.stopPolicy k = true ∧ s.pStatus ≠ expected s.cfg k)

/-- The state in which SEQ reacts to a response: no request is outstanding, and ST still awaits the one just answered. -/
structure Reacting (s : State) : Prop where
  busy : s.st ≠ 0#4
  reqV : s.reqV = false
  outcome : s.outcome = 0#2
  crcBad : s.crcBad = 0#2
  quiet : Quiet s.err s.trace

theorem requestAt_mem_portWords (st : BitVec 4) : requestAt st ∈ portWords := by
  revert st; decide

theorem requestAt_stepNum (k : TransactionStep) : requestAt (stepNum k) = romReq k := by
  simp [requestAt, stepOfNum_stepNum]

theorem quiet_of_idle {s : State} (h : s.Inv) (hst : s.st = 0#4) : Quiet s.err s.trace :=
  ⟨h.errConsistent, h.traceWords, h.traceIdle hst⟩

/-- The answer to the outstanding request leaves every entry of TRACE answered (R72). -/
theorem quiet_answerLast {s : State} (h : s.Inv) (hst : s.st ≠ 0#4) (rsp : RspWord) :
    Quiet s.err (answerLast s.trace rsp) := by
  obtain ⟨l, hl, hanswered⟩ := h.traceLast hst
  have hwords := h.traceWords
  rw [hl] at hwords ⊢
  rw [answerLast_append]
  refine ⟨h.errConsistent, ?_, ?_⟩
  · simpa [or_imp, forall_and] using hwords
  · simpa [or_imp, forall_and] using hanswered

theorem reacting_answer {s : State} (h : s.Inv) (hst : s.st ≠ 0#4) (rest : List Event) (rsp : RspWord) :
    Reacting ((s.setEvents rest).answer rsp) where
  busy := hst
  reqV := rfl
  outcome := h.busyNone hst
  crcBad := h.crcBadOnly (by rw [h.busyNone hst]; decide)
  quiet := quiet_answerLast h hst rsp

/-! ## The ways an event ends: a request issued, or IDLE -/

/-- Issuing the request that ST awaits, with no outcome published. -/
theorem inv_issue {s : State} {op : BusOp} {data : Byte} (hquiet : Quiet s.err s.trace)
    (hbusy : s.st ≠ 0#4) (hreached : s.st.toNat ≤ 13) (hreq : reqWord op data = requestAt s.st)
    (hout : s.outcome = 0#2) (hbad : s.crcBad = 0#2) (hclose : s.st = 13#4 → CloseRecord s) :
    (s.issue op data).Inv where
  stReached := hreached
  reqVBusy := iff_of_true rfl hbusy
  reqOfSt _ := hreq
  busyNone _ := hout
  crcBadOnly _ := hbad
  crcFailErr h := by simp [hout] at h
  busFailErr h := by simp [hout] at h
  errConsistent := hquiet.errConsistent
  closeLatch := hclose
  traceWords := by
    have hword : reqWord op data ∈ portWords := hreq ▸ requestAt_mem_portWords s.st
    simpa [or_imp, forall_and] using ⟨hquiet.traceWords, hword⟩
  traceLast _ := ⟨s.trace, rfl, hquiet.traceAnswered⟩
  traceIdle h := absurd h hbusy

/-- Step k begins: its request is issued (R92). -/
theorem inv_issue_step {s : State} {k : TransactionStep} (hst : s.st = stepNum k) (hquiet : Quiet s.err s.trace)
    (hout : s.outcome = 0#2) (hbad : s.crcBad = 0#2) : (s.issue (romOp k) (romData k)).Inv := by
  refine inv_issue hquiet ?_ ?_ ?_ hout hbad ?_
  · exact hst ▸ stepNum_ne_zero k
  · exact hst ▸ (stepNum_le k).trans (by decide)
  · rw [hst, requestAt_stepNum]; rfl
  · exact fun hclose => absurd (hst.symm.trans hclose) (stepNum_ne_close k)

/-- CLOSE is entered with a record in the latches (R92, R107). -/
theorem inv_toClose {s : State} (hquiet : Quiet s.err s.trace) (hout : s.outcome = 0#2) (hbad : s.crcBad = 0#2)
    (hrecord : CloseRecord s) : s.toClose.Inv :=
  inv_issue (s := s.setSt stClose) hquiet (show stClose ≠ 0#4 by decide) (show stClose.toNat ≤ 13 by decide)
    (show reqWord .stop 0x00#8 = requestAt stClose by decide) hout hbad fun _ => hrecord

/-- In IDLE with nothing outstanding, what is left is R116. -/
theorem inv_idle {s : State} (hst : s.st = 0#4) (hreqV : s.reqV = false) (hquiet : Quiet s.err s.trace)
    (hbad : s.outcome ≠ 3#2 → s.crcBad = 0#2)
    (hcrcFail : s.outcome = 3#2 → s.err.step = 13#4 ∧ s.err.kind = 5#3 ∧ s.crcBad ≠ 0#2)
    (hbusFail : s.outcome = 2#2 → ∃ k : TransactionStep, s.err.step = stepNum k ∧ s.err.kind = kindOf k) : s.Inv where
  stReached := by rw [hst]; decide
  reqVBusy := by simp [hst, hreqV]
  reqOfSt h := absurd hst h
  busyNone h := absurd hst h
  crcBadOnly := hbad
  crcFailErr := hcrcFail
  busFailErr := hbusFail
  errConsistent := hquiet.errConsistent
  closeLatch h := by simp [hst] at h
  traceWords := hquiet.traceWords
  traceLast h := absurd hst h
  traceIdle _ := hquiet.traceAnswered

/-! ## Each branch of a step -/

/-- The elements that reset gives a value meet the invariant, whatever the others hold (R41). -/
theorem inv_reset_values (buf : Buffer) (cfg : Params) (events : List Event) (hostData : Option Word) (draws : Nat) :
    ({ State.reset with
        buf := buf, cfg := cfg, events := events, hostData := hostData, draws := draws } : State).Inv :=
  inv_idle rfl rfl ⟨.inl ⟨rfl, rfl⟩, by simp [State.reset], by simp [State.reset]⟩ (fun _ => rfl)
    (fun h => absurd h (by simp [State.reset])) (fun h => absurd h (by simp [State.reset]))

/-- No clause of the invariant reads the events to come, CRC_IN or what the HOST has read. -/
theorem inv_host_frame {s : State} (h : s.Inv) (events : List Event) (crcIn : CrcIn) (hostData : Option Word) :
    ({ s with events := events, crcIn := crcIn, hostData := hostData } : State).Inv := { h with }

theorem inv_go {s : State} (h : s.Inv) (hst : s.st = 0#4) (rest : List Event) : (s.setEvents rest).go.Inv := by
  have hquiet : Quiet s.err s.trace := quiet_of_idle h hst
  exact inv_issue_step (k := .s1) rfl hquiet rfl rfl

theorem inv_finishBusFail {s : State} (h : Reacting s) (k : TransactionStep) (status : Byte) :
    (s.finishBusFail k status).Inv :=
  inv_idle rfl h.reqV ⟨.inr (.inl ⟨k, rfl, rfl⟩), h.quiet.traceWords, h.quiet.traceAnswered⟩ (fun _ => rfl)
    (fun hout => absurd hout (show outBusFail ≠ _ by decide)) (fun _ => ⟨k, rfl, rfl⟩)

theorem inv_finishOk {s : State} (h : Reacting s) (p q : Raw) : (s.finishOk p q).Inv :=
  inv_idle rfl h.reqV h.quiet (fun _ => rfl) (fun hout => absurd hout (show outOk ≠ _ by decide))
    (fun hout => absurd hout (show outOk ≠ _ by decide))

theorem inv_finishCrc {s : State} (h : Reacting s) {bad : BitVec 2} (hbad : bad ≠ 0#2) (status : Byte) :
    (s.finishCrc bad status).Inv :=
  inv_idle rfl h.reqV ⟨.inr (.inr ⟨rfl, rfl⟩), h.quiet.traceWords, h.quiet.traceAnswered⟩
    (fun hout => absurd rfl hout) (fun _ => ⟨rfl, rfl, hbad⟩) (fun hout => absurd hout (show outCrcFail ≠ _ by decide))

/-- SEQ's reaction to a response restores the invariant. -/
theorem inv_react {s t : State} {rsp : RspWord} (hs : Reacting s) (h : react rsp s = .next t) : t.Inv := by
  rcases react_inversion h with ⟨hidle, -⟩ | ⟨k, k', -, -, -, rfl⟩ | ⟨-, hmatch, rfl⟩ | ⟨k, -, hmiss, hstop, rfl⟩ |
    ⟨k, -, -, -, rfl⟩ | ⟨-, -, -, -, rfl⟩ | ⟨-, -, bad, hbad, rfl⟩ | ⟨-, -, k, -, rfl⟩
  · exact absurd hidle hs.busy
  · exact inv_issue_step rfl hs.quiet hs.outcome hs.crcBad
  · exact inv_toClose hs.quiet hs.outcome hs.crcBad (.inl ⟨rfl, rfl, hmatch⟩)
  · exact inv_toClose hs.quiet hs.outcome hs.crcBad (.inr ⟨rfl, k, rfl, hstop, hmiss⟩)
  · exact inv_finishBusFail hs k _
  · exact inv_finishOk hs _ _
  · exact inv_finishCrc hs hbad _
  · exact inv_finishBusFail hs k _

/-! ## The statements -/

/-- Settles O39: reset gives every element that the invariant reads its value. -/
theorem invariantAtReset : Obligations.InvariantAtReset :=
  inv_reset_values State.reset.buf State.reset.cfg State.reset.events State.reset.hostData State.reset.draws

/-- Settles O40, by what each kind of event leaves. -/
theorem invariantKeptByEveryStep : Obligations.InvariantKeptByEveryStep := by
  intro s t hs hstep
  obtain ⟨e, rest, he, -⟩ := step_next hstep
  rcases step_inversion he hstep with ⟨-, rfl⟩ | ⟨-, hidle, rfl⟩ | ⟨a, -, ht, -⟩ | ⟨rsp, -, -, hreqV, hreact⟩
  · exact inv_reset_values _ _ _ _ _
  · exact inv_go hs hidle rest
  · rw [ht]; exact inv_host_frame hs rest t.crcIn t.hostData
  · have hbusy : s.st ≠ 0#4 := hs.reqVBusy.mp hreqV
    exact inv_react (reacting_answer hs hbusy rest rsp) hreact

end Sys2Proof.Proofs.Invariant
end

section
/-! PROOFS. The words of the state (spec/10_state.md R21, R22, R33, R34; 30_encoding.md R63, R66, R70; 43_host_interface.md
R131): which words have no operation, the fields of the register words, what the host reads and decodes, and what reset
leaves. -/

namespace Sys2Proof.Proofs.Words

open Sys2Proof Sys2Proof.Machine

/-! ## Words with no operation -/

/-- R66: OP = 0b111 is the only reserved request. -/
theorem decodeReq_bad_iff (req : ReqWord) (rsp : RspWord) : decodeReq req rsp = .bad .reservedOp ↔ reqOp req = 7#3 := by
  constructor
  · intro hbad
    by_contra hop
    obtain ⟨i, hok⟩ := decodeReq_ok rsp hop
    simp [hok] at hbad
  · intro hop
    simp [decodeReq, hop]

/-- R63: a descriptor has no operation exactly where it is not admitted. -/
theorem decodeAcc_bad_iff (desc : BitVec 9) (data : Word) :
    decodeAcc desc data = .bad .notAdmitted ↔ admittedOff desc = false := by
  cases h : admittedOff desc <;> simp [decodeAcc, h]

theorem admittedOff_eq_false_iff (desc : BitVec 9) :
    admittedOff desc = false ↔ ¬ (desc.extractLsb' 0 2 = 0#2 ∧ desc.extractLsb' 5 3 = 0#3) := by
  simp [admittedOff]

/-- R62: the step's number selects its row. -/
theorem decodeRom_stepNum (k : TransactionStep) (rsp : RspWord) : decodeRom (stepNum k) rsp = .ok (rowInstr k rsp) := by
  cases k <;> rfl

/-- R21, R66: the values of ST that select no row, and why. -/
theorem decodeRom_bad_iff (st : BitVec 4) (rsp : RspWord) (e : DecodeError) :
    decodeRom st rsp = .bad e ↔ (st = 0#4 ∧ e = .idleState) ∨ ((st = 14#4 ∨ st = 15#4) ∧ e = .unreachableState) := by
  rcases st_cases st with rfl | ⟨k, rfl⟩ | rfl | rfl | rfl
  case inr.inl =>
    rw [decodeRom_stepNum]
    cases k <;> simp [stepNum]
  all_goals simp [decodeRom, eq_comm]

/-- R70: a VALIDATE word's upper byte is zero. -/
theorem decodeQuery_bad_iff (word : Word) : decodeQuery word = .bad .queryTopByte ↔ word.extractLsb' 24 8 ≠ 0#8 := by
  by_cases h : word.extractLsb' 24 8 = 0#8 <;> simp [decodeQuery, h]

/-- Settles O2, format by format. -/
theorem decodeRejectsExactlyTheReserved : Obligations.DecodeRejectsExactlyTheReserved := by
  refine ⟨decodeReq_bad_iff, fun desc data => ?_, fun st rsp => ?_, fun st rsp => ?_, decodeQuery_bad_iff⟩
  · exact (decodeAcc_bad_iff desc data).trans (admittedOff_eq_false_iff desc)
  · simpa [decode] using decodeRom_bad_iff st rsp .unreachableState
  · simpa [decode] using decodeRom_bad_iff st rsp .idleState

/-! ## Fields of the register words -/

/-- A field that starts above a word's own width reads 0 (R34: the register words are zero-extended). -/
theorem extractLsb'_setWidth_of_width_le {v w : Nat} (x : BitVec v) {start : Nat} (len : Nat) (h : v ≤ start) :
    (x.setWidth w).extractLsb' start len = 0#len := by
  ext i hi
  simp [BitVec.getLsbD_of_ge x (start + i) (by omega)]

/-- R34: the fields of the STATUS word above bit 0, which `statusWord_busy` gives. -/
theorem statusWord_fields (s : State) :
    (statusWord s).extractLsb' 1 2 = s.outcome ∧ (statusWord s).extractLsb' 4 2 = s.crcBad ∧
      (statusWord s).extractLsb' 8 4 = s.st := by
  simp (disch := decide) [statusWord, BitVec.extractLsb'_setWidth_of_le, BitVec.extractLsb'_append_eq_of_add_le,
    BitVec.extractLsb'_append_eq_of_le, -Nat.reduceAdd]

/-- R34: the bits of the STATUS word that belong to no field. -/
theorem statusWord_zeros (s : State) :
    (statusWord s).getLsbD 3 = false ∧ (statusWord s).extractLsb' 6 2 = 0#2 ∧
      (statusWord s).extractLsb' 12 20 = 0#20 := by
  refine ⟨?_, ?_, extractLsb'_setWidth_of_width_le _ 20 (by decide)⟩
  · simp only [statusWord, BitVec.getLsbD_setWidth, BitVec.getLsbD_append]
    simp
  · simp (disch := decide) [statusWord, BitVec.extractLsb'_setWidth_of_le, BitVec.extractLsb'_append_eq_of_add_le,
      BitVec.extractLsb'_append_eq_of_le, -Nat.reduceAdd]

/-- R34: the fields of the ERR word. -/
theorem errWord_fields (e : ErrReg) :
    (errWord e).extractLsb' 0 8 = e.status ∧ (errWord e).extractLsb' 8 4 = e.step ∧
      (errWord e).extractLsb' 12 3 = e.kind := by
  simp (disch := decide) [errWord, BitVec.extractLsb'_setWidth_of_le, BitVec.extractLsb'_append_eq_of_add_le,
    BitVec.extractLsb'_append_eq_of_le, -Nat.reduceAdd]

/-- R34: the fields of the CRC_IN word. -/
theorem crcInWord_fields (c : CrcIn) :
    (crcInWord c).extractLsb' 0 8 = c.chk ∧ (crcInWord c).extractLsb' 8 8 = c.low ∧
      (crcInWord c).extractLsb' 16 8 = c.high := by
  simp (disch := decide) [crcInWord, BitVec.extractLsb'_setWidth_of_le, BitVec.extractLsb'_append_eq_of_add_le,
    BitVec.extractLsb'_append_eq_of_le, -Nat.reduceAdd]

/-- R22: BUSY is ST not 0. -/
theorem busy_iff (s : State) : busy s = true ↔ s.st ≠ 0#4 := by simp [busy]

/-- Settles O11, word by word; above their own width the words are zero-extended. -/
theorem registerWordFields : Obligations.RegisterWordFields := by
  intro s
  obtain ⟨houtcome, hbad, hst⟩ := statusWord_fields s
  obtain ⟨hbit3, hbits7to6, hupper⟩ := statusWord_zeros s
  obtain ⟨hstatus, hstep, hkind⟩ := errWord_fields s.err
  obtain ⟨hchk, hlow, hhigh⟩ := crcInWord_fields s.crcIn
  refine ⟨?_, houtcome, hbit3, hbad, hbits7to6, hst, hupper, hstatus, hstep, hkind, ?_, hchk, hlow, hhigh, ?_⟩
  · rw [statusWord_busy, busy_iff]
  · exact extractLsb'_setWidth_of_width_le _ 17 (by decide)
  · exact extractLsb'_setWidth_of_width_le _ 8 (by decide)

/-! ## What the host reads -/

theorem bitOf_busy (s : State) : bitOf (busy s) = if s.st = 0#4 then 0#1 else 1#1 := by
  by_cases h : s.st = 0#4
  · rw [if_pos h, busy, h]; rfl
  · rw [if_neg h, (busy_iff s).mpr h]; rfl

theorem bitOf_crcMatch (c : CrcIn) : bitOf (crcMatch c) = if crc8 c.high c.low = c.chk then 1#1 else 0#1 := by
  by_cases h : crc8 c.high c.low = c.chk
  · rw [if_pos h, crcMatch, validate, beq_iff_eq.mpr h]; rfl
  · rw [if_neg h, crcMatch, validate, beq_eq_false_iff_ne.mpr h]; rfl

/-- Settles O10: each read delivers `readWord` of its register; BUSY and MATCH are the computed bits (R22, R33). -/
theorem hostReadsReturnTheirWords : Obligations.HostReadsReturnTheirWords := by
  intro s
  rw [← bitOf_busy, ← bitOf_crcMatch]
  exact ⟨exec_readInstr .ctrl s, exec_readInstr .status s, exec_readInstr .rawP s, exec_readInstr .rawS s,
    exec_readInstr .err s, exec_readInstr .crcIn s, exec_readInstr .crcOut s, exec_readInstr .rsv s⟩

/-! ## What the host decodes -/

/-- What R131's case reports of the registers of one state. -/
def reportOf (s : State) : Report := collect (statusWord s) (s.rawP.setWidth 32) (s.rawS.setWidth 32) (errWord s.err)

/-- R131 by OUTCOME: the fields that R34 puts in the words come back from them. -/
theorem reportOf_eq (s : State) : reportOf s =
    if s.outcome = 1#2 then .reading { primaryValue := s.rawP, secondaryValue := s.rawS }
    else if s.outcome = 2#2 then .busFail s.err.kind s.err.step s.err.status
    else if s.outcome = 3#2 then .crcFail (s.crcBad.getLsbD 0) (s.crcBad.getLsbD 1) s.err.status
    else .noResult := by
  obtain ⟨houtcome, hbad, -⟩ := statusWord_fields s
  obtain ⟨hstatus, hstep, hkind⟩ := errWord_fields s.err
  simp only [reportOf, collect, outOk, outBusFail, outCrcFail, houtcome, hstatus, hstep, hkind, raw_of_word, ← hbad]
  simp

theorem rawReading_eq_some_iff (s : State) (r : RawReading) :
    rawReading s = some r ↔ s.outcome = 1#2 ∧ r = { primaryValue := s.rawP, secondaryValue := s.rawS } := by
  by_cases h : s.outcome = 1#2 <;> simp [rawReading, outOk, h, eq_comm]

/-- R133: what is reported is a reading exactly where RAW is one. -/
theorem reportOf_eq_reading_iff (s : State) (r : RawReading) : reportOf s = .reading r ↔ rawReading s = some r := by
  rw [rawReading_eq_some_iff, reportOf_eq]
  by_cases h : s.outcome = 1#2
  · simp [h, eq_comm]
  · rw [if_neg h]
    split_ifs <;> simp [h]

/-- Settles O54, by the value of OUTCOME. -/
theorem collectReportsTheOutcome : Obligations.CollectReportsTheOutcome := by
  intro s
  change (_ → reportOf s = _) ∧ (_ → reportOf s = _) ∧ (_ → reportOf s = _) ∧ (_ → reportOf s = _) ∧
    ∀ v, _ ↔ reportOf s = _
  refine ⟨fun h => ?_, fun h => ?_, fun h => ?_, fun h => ?_, fun v => (reportOf_eq_reading_iff s v).symm⟩
  all_goals simp [reportOf_eq, h]

/-! ## What reset leaves -/

/-- R82: the checksum of the zero payload, two rounds of shift8 from the seed. -/
theorem crc8_zero : crc8 0x00#8 0x00#8 = 0x81#8 := by
  simp [crc8, seed, shift8, shiftRounds, shift1, poly]

/-- Settles O38: the elements by definition, the register words by their value at the reset elements. -/
theorem resetLeavesTheSpecsValues : Obligations.ResetLeavesTheSpecsValues := by
  refine ⟨rfl, rfl, rfl, rfl, rfl, rfl, rfl, rfl, rfl, rfl, rfl, ?_, ?_, ?_, ?_⟩
  · decide
  · decide
  · decide
  · simp [crcOutWord, crcRem, crcMatch, validate, State.reset, crc8_zero, bitOf]

end Sys2Proof.Proofs.Words
end

section
/-! PROOFS. What one event does to the state (spec/10_state.md R20, R21, R40; 40_buslink.md R72; 42_sequencer.md R105;
70_reset_and_hazards.md R149), and which event writes each register (R28, R29, R23, R32, R52). -/

namespace Sys2Proof.Proofs.Events

open Sys2Proof Sys2Proof.Machine

/-! ## Which instruction an event runs -/

/-- An admitted access decodes to a read or a write of its register (R63, R64). -/
theorem decode_admitted {a : HostAccess} (hr : a.refusal = none) :
    decode (.hostAcc a.descriptor a.data) =
      .ok (if a.isWrite then decodeWrite (accReg a.descriptor) a.data else decodeRead (accReg a.descriptor)) := by
  obtain ⟨hadmitted, hwrite, -⟩ := descriptor_admitted hr
  rw [decode, decodeAcc, if_pos hadmitted, hwrite]

/-- The step on an admitted host access is exec of its instruction (R20). -/
theorem step_host_exec {s : State} {a : HostAccess} {rest : List Event} {i : Instr} (he : s.events = .host a :: rest)
    (hf : foundFault s = none) (hr : a.refusal = none) (hi : decode (.hostAcc a.descriptor a.data) = .ok i) :
    step s = exec i (s.setEvents rest) := by
  rw [step_host he hf]
  simp only [runHost, hr, hi]

/-- R70: the word of VALIDATE h, l, c has its three bytes in place and its upper byte zero. -/
theorem decode_validateWord (h l c : Byte) : decode (.crcIn (0#8 ++ h ++ l ++ c)) = .ok (.validate h l c) := by
  simp (disch := decide) [decode, decodeQuery, BitVec.extractLsb'_append_eq_of_add_le,
    BitVec.extractLsb'_append_eq_of_le, -Nat.reduceAdd]

theorem writeLine_admitted (reg : HostReg) (value : Word) : (lineAccess (.w reg value)).refusal = none := by
  cases reg <;> rfl

/-- R64: the write line of CRC_IN, descriptor 0x114. -/
theorem decode_writeCrcIn (value : Word) :
    decode (.hostAcc (lineAccess (.w .crcIn value)).descriptor value) = .ok (.wrCrcIn value) := by
  have hdesc : (lineAccess (.w .crcIn value)).descriptor = 0x114#9 := show bitOf true ++ 0x14#8 = 0x114#9 by decide
  rw [hdesc]
  simp [decode, decodeAcc, admittedOff, accReg, decodeWrite]

/-- Two steps on the accesses of VALIDATE, with nothing between them, are exec of it (R70; log entry 11). -/
theorem run_validateLines {s : State} {rest : List Event} (h l c : Byte) (hf : foundFault s = none)
    (he : s.events = (validateLines h l c).map lineEvent ++ rest) :
    Sys2Proof.core.run 2 s = exec (.validate h l c) (s.setEvents rest) := by
  have hwrite : step s =
      .next ((s.setEvents (lineEvent (.r .crcOut) :: rest)).setCrcIn (splitCrcIn (0#8 ++ h ++ l ++ c))) :=
    step_host_exec he hf (writeLine_admitted .crcIn _) (decode_writeCrcIn _)
  have hread := step_read (s := (s.setEvents rest).setCrcIn (splitCrcIn (0#8 ++ h ++ l ++ c))) .crcOut hf
  exact (run_next 1 hwrite).trans (run_next 0 hread)

/-- Settles O33. -/
theorem stepRunsHostOperation : Obligations.StepRunsHostOperation := by
  intro s rest hf
  refine ⟨fun a he hr => ?_, fun h l c he => ⟨decode_validateWord h l c, run_validateLines h l c hf he⟩⟩
  exact ⟨_, decode_admitted hr, step_host_exec he hf hr (decode_admitted hr)⟩

/-- R59: a request of WRITE, or with DATA 0x00, is none that U9 names. -/
theorem dataWithoutWrite_eq_false {req : ReqWord} (h : reqOp req = 2#3 ∨ reqData req = 0x00#8) :
    dataWithoutWrite req = false := by
  rcases h with h | h <;> simp [dataWithoutWrite, h]

/-- SEQ's reaction is the row that ST decodes to (R92). -/
theorem react_row {s : State} {rsp : RspWord} {j : Instr} (hj : decode (.stepRom s.st rsp) = .ok j) :
    react rsp s = exec j s := by
  have hbusy : s.st ≠ 0#4 := by
    intro hidle
    simp [hidle, decode, decodeRom] at hj
  simp only [react, if_neg hbusy, hj]

/-- Settles O34: the BUS agent's half of the event, then SEQ's (R72). -/
theorem stepRunsBusResponse : Obligations.StepRunsBusResponse := by
  intro s t rest rsp i hf he hreqV hi hreq hexec
  have hstep : step s = react rsp t := by
    have hi' : decode (.blReq (s.setEvents rest).req rsp) = .ok i := hi
    have hexec' : exec i (s.setEvents rest) = .next t := hexec
    have hdata : dataWithoutWrite (s.setEvents rest).req = false := dataWithoutWrite_eq_false hreq
    have hv : (s.setEvents rest).reqV = true := hreqV
    rw [step_bus he hf]
    simp only [runBus, hv, hi', hdata, hexec', if_true, Bool.false_eq_true, if_false]
  rw [hstep]
  exact ⟨fun hidle => react_idle rsp hidle, fun j hj => react_row hj⟩

/-- A state that no rule produces faults on every event but RESET (log entry 13). -/
theorem step_of_foundFault {s : State} {e : Event} {rest : List Event} {f : Fault} (he : s.events = e :: rest)
    (hne : e ≠ .reset) (hf : foundFault s = some f) : step s = .fault f := by
  have hf' : foundFault (s.setEvents rest) = some f := hf
  cases e with
  | host a => simp only [step, he, runEvent, checked, hf']
  | bus rsp => simp only [step, he, runEvent, checked, hf']
  | reset => exact absurd rfl hne

/-- Settles O36: ST is looked at before ERR. -/
theorem stepFaultsOnUnreachableState : Obligations.StepFaultsOnUnreachableState := by
  intro s e rest he hne
  refine ⟨fun hst => ?_, fun hst herr => ?_⟩
  · exact step_of_foundFault he hne (by rw [foundFault, if_pos hst])
  · exact step_of_foundFault he hne (by rw [foundFault, if_neg (by omega), if_pos herr])

/-- Settles O37: RESET is looked at before any check, and `resetEvent` names every element. -/
theorem resetEventSetsResetValues : Obligations.ResetEventSetsResetValues :=
  fun _ _ he => step_reset he

/-- Settles O27: the matching branch of step 12 (R92, R105). -/
theorem matchedStepTwelveLatches : Obligations.MatchedStepTwelveLatches := by
  intro s rdata status hst hstatus
  have hmatch : rspStatus (rdata ++ status) = expected s.cfg .s12 := by rw [rspStatus_append, hstatus]; rfl
  have hrespond : s.respondAt .s12 (rdata ++ status) = s.advance .s12 (rdata ++ status) := by
    rw [State.respondAt, if_pos hmatch]
  rw [show Instr.seqStep12 _ = rowInstr .s12 (rdata ++ status) from rfl, exec_rowInstr, seqRow_selected _ hst, hrespond]
  simp only [State.advance, stepNext, rspStatus_append, rspRdata_append]
  rfl

/-! ## Which event writes each register -/

/-- Settles O18. -/
theorem hostEventFrame : Obligations.HostEventFrame := by
  intro s t e rest he hhost hstep
  obtain ⟨a, rfl⟩ : ∃ a, e = .host a := by
    cases e with
    | host a => exact ⟨a, rfl⟩
    | bus rsp => cases hhost
    | reset => cases hhost
  have hf : foundFault s = none := by
    by_contra hfault
    obtain ⟨f, hf⟩ := Option.ne_none_iff_exists'.mp hfault
    rw [step_of_foundFault he (by simp) hf] at hstep
    cases hstep
  rw [step_host he hf] at hstep
  rcases (runHost_next hstep).2 with ⟨hwrite, hoff, hgo, hidle, -⟩ | ⟨hframe, -⟩
  · exact .inl ⟨hidle, a, rfl, hwrite, hoff, hgo⟩
  · exact .inr hframe

/-- A register that GO and the other host events leave is written, RESET aside, only by SEQ's reaction to a response. -/
theorem response_of_changed {α : Type} (reg : State → α) (hgo : ∀ s : State, reg s.go = reg s)
    (hframe : ∀ (s : State) events crcIn hostData,
      reg { s with events := events, crcIn := crcIn, hostData := hostData } = reg s)
    {s t : State} {e : Event} {rest : List Event} (he : s.events = e :: rest) (hstep : step s = .next t)
    (hne : e ≠ .reset) (hchanged : reg t ≠ reg s) :
    ∃ rsp, e = .bus rsp ∧ react rsp ((s.setEvents rest).answer rsp) = .next t := by
  rcases step_inversion he hstep with ⟨hreset, -⟩ | ⟨-, -, rfl⟩ | ⟨a, -, ht, -⟩ | ⟨rsp, rfl, -, -, hreact⟩
  · exact absurd hreset hne
  · exact absurd ((hgo _).trans (hframe s rest s.crcIn s.hostData)) hchanged
  · exact absurd (by rw [ht]; exact hframe s _ _ _) hchanged
  · exact ⟨rsp, rfl, hreact⟩

/-- R111: only finish_ok writes RAW. -/
theorem react_raw_changed {s t : State} {rsp : RspWord} (h : react rsp s = .next t)
    (hchanged : (t.rawP, t.rawS) ≠ (s.rawP, s.rawS)) :
    s.st = 13#4 ∧ s.pOk = true ∧ primaryOk s.buf = true ∧ secondaryOk s.buf = true ∧
      t = s.finishOk (assemble s.buf.b7 s.buf.b8) (assemble s.buf.b10 s.buf.b11) := by
  rcases react_inversion h with ⟨-, rfl⟩ | ⟨k, k', -, -, -, rfl⟩ | ⟨-, -, rfl⟩ | ⟨k, -, -, -, rfl⟩ | ⟨k, -, -, -, rfl⟩ |
    hok | ⟨-, -, bad, -, rfl⟩ | ⟨-, -, k, -, rfl⟩
  case inr.inr.inr.inr.inr.inl => exact hok
  all_goals exact absurd rfl hchanged

/-- Settles O44. -/
theorem rawWrittenOnlyBySuccess : Obligations.RawWrittenOnlyBySuccess := by
  intro s t e rest he hstep hne hchanged
  have hraw : (t.rawP, t.rawS) ≠ (s.rawP, s.rawS) := by simpa [or_iff_not_imp_left] using hchanged
  obtain ⟨rsp, -, hreact⟩ :=
    response_of_changed (fun s => (s.rawP, s.rawS)) (fun _ => rfl) (fun _ _ _ _ => rfl) he hstep hne hraw
  obtain ⟨hst, hok, hprimary, hsecondary, rfl⟩ := react_raw_changed hreact hraw
  exact ⟨hst, hok, rfl, rfl, hprimary, hsecondary, rfl, rfl⟩

/-- R107, R109: the three ways ERR is written: a failure with no stop to follow, and the two failed ends of CLOSE. -/
theorem react_err_changed {s t : State} {rsp : RspWord} (h : react rsp s = .next t) (hchanged : t.err ≠ s.err) :
    (∃ k, s.st = stepNum k ∧ rspStatus rsp ≠ expected s.cfg k ∧ stopAfterFail s.cfg.stopPolicy k = false ∧
      t = s.finishBusFail k (rspStatus rsp)) ∨
    (s.st = 13#4 ∧ s.pOk = false ∧ ∃ k, s.pStep = stepNum k ∧ t = s.finishBusFail k s.pStatus) ∨
    (s.st = 13#4 ∧ s.pOk = true ∧ ∃ bad, bad ≠ 0#2 ∧ t = s.finishCrc bad s.pStatus) := by
  rcases react_inversion h with ⟨-, rfl⟩ | ⟨k, k', -, -, -, rfl⟩ | ⟨-, -, rfl⟩ | ⟨k, -, -, -, rfl⟩ | hnoStop |
    ⟨-, -, -, -, rfl⟩ | hcrc | hclose
  case inr.inr.inr.inr.inl => exact .inl hnoStop
  case inr.inr.inr.inr.inr.inr.inl => exact .inr (.inr hcrc)
  case inr.inr.inr.inr.inr.inr.inr => exact .inr (.inl hclose)
  all_goals exact absurd rfl hchanged

/-- Settles O45. -/
theorem errWrittenOnlyByFailure : Obligations.ErrWrittenOnlyByFailure := by
  intro s t e rest he hstep hne hchanged
  obtain ⟨rsp, rfl, hreact⟩ := response_of_changed State.err (fun _ => rfl) (fun _ _ _ _ => rfl) he hstep hne hchanged
  rcases react_err_changed hreact hchanged with
    ⟨k, hst, hmiss, hnoStop, rfl⟩ | ⟨hst, hok, k, hk, rfl⟩ | ⟨hst, hok, bad, hbad, rfl⟩
  · have hbusy : s.st ≠ 0#4 := fun h0 => stepNum_ne_zero k (hst.symm.trans h0)
    exact ⟨hbusy, rfl, rfl, rfl,
      .inl ⟨rspRdata rsp, rspStatus rsp, k, congrArg _ (rsp_eq_append rsp), hst, hmiss, hnoStop, rfl, rfl, rfl⟩⟩
  · have hbusy : s.st ≠ 0#4 := fun h0 => absurd (hst.symm.trans h0) (by decide)
    exact ⟨hbusy, rfl, rfl, rfl, .inr (.inl ⟨hst, hok, rfl, rfl, k, hk, rfl⟩)⟩
  · have hbusy : s.st ≠ 0#4 := fun h0 => absurd (hst.symm.trans h0) (by decide)
    exact ⟨hbusy, rfl, rfl, rfl, .inr (.inr ⟨hst, hok, rfl, hbad, rfl⟩)⟩

/-- R93: the steps below 7 store no byte. -/
theorem storeByte_of_lt {k : TransactionStep} (h : (stepNum k).toNat < 7) (v : Byte) (b : Buffer) : storeByte k v b = b := by
  revert h
  cases k <;> simp [stepNum, storeByte]

/-- R93: B is written only where a step's status matches, in that step's element. -/
theorem react_buf_changed {s t : State} {rsp : RspWord} (h : react rsp s = .next t) (hchanged : t.buf ≠ s.buf) :
    ∃ k, s.st = stepNum k ∧ rspStatus rsp = expected s.cfg k ∧ t.buf = storeByte k (rspRdata rsp) s.buf := by
  rcases react_inversion h with ⟨-, rfl⟩ | ⟨k, k', hst, hmatch, -, rfl⟩ | ⟨hst, hmatch, rfl⟩ | ⟨k, -, -, -, rfl⟩ |
    ⟨k, -, -, -, rfl⟩ | ⟨-, -, -, -, rfl⟩ | ⟨-, -, bad, -, rfl⟩ | ⟨-, -, k, -, rfl⟩
  case inr.inl => exact ⟨k, hst, hmatch, rfl⟩
  case inr.inr.inl => exact ⟨.s12, hst, hmatch, rfl⟩
  all_goals exact absurd rfl hchanged

/-- Settles O46. -/
theorem bufferWrittenOnlyByMatchingRead : Obligations.BufferWrittenOnlyByMatchingRead := by
  intro s t e rest he hstep hne hchanged
  obtain ⟨rsp, rfl, hreact⟩ := response_of_changed State.buf (fun _ => rfl) (fun _ _ _ _ => rfl) he hstep hne hchanged
  obtain ⟨k, hst, hmatch, hbuf⟩ := react_buf_changed hreact hchanged
  have hread : 7 ≤ (stepNum k).toNat := by
    by_contra hlt
    exact hchanged (hbuf.trans (storeByte_of_lt (by omega) _ _))
  exact ⟨rspRdata rsp, rspStatus rsp, k, congrArg _ (rsp_eq_append rsp), hst, hread, hmatch, hbuf⟩

/-- SEQ writes neither CRC_IN nor the parameters, and takes no event of its own (R20, R40, R156). -/
theorem react_frame {s t : State} {rsp : RspWord} (h : react rsp s = .next t) :
    t.crcIn = s.crcIn ∧ t.cfg = s.cfg ∧ t.events = s.events := by
  rcases react_inversion h with ⟨-, rfl⟩ | ⟨k, k', -, -, -, rfl⟩ | ⟨-, -, rfl⟩ | ⟨k, -, -, -, rfl⟩ | ⟨k, -, -, -, rfl⟩ |
    ⟨-, -, -, -, rfl⟩ | ⟨-, -, bad, -, rfl⟩ | ⟨-, -, k, -, rfl⟩
  all_goals exact ⟨rfl, rfl, rfl⟩

/-- Settles O47: GO and SEQ leave CRC_IN, and `step_inversion` names the host event that does not. -/
theorem crcInWrittenOnlyByHost : Obligations.CrcInWrittenOnlyByHost := by
  intro s t e rest he hstep hchanged
  rcases step_inversion he hstep with ⟨hreset, -⟩ | ⟨-, -, rfl⟩ | ⟨a, ha, ht, hwrite⟩ | ⟨rsp, -, -, -, hreact⟩
  · exact .inl hreset
  · exact absurd rfl hchanged
  · obtain ⟨hw, hoff, hfields⟩ := hwrite hchanged
    exact .inr ⟨a, ha, hw, hoff, hfields, by rw [ht], by rw [ht]⟩
  · exact absurd (react_frame hreact).1 hchanged

/-- Settles O48. -/
theorem parametersNeverChange : Obligations.ParametersNeverChange := by
  intro s t hstep
  obtain ⟨e, rest, he, -⟩ := step_next hstep
  suffices hkept : t.cfg = s.cfg ∧ t.events = rest from ⟨hkept.1, e, hkept.2 ▸ he⟩
  rcases step_inversion he hstep with ⟨-, rfl⟩ | ⟨-, -, rfl⟩ | ⟨a, -, ht, -⟩ | ⟨rsp, -, -, -, hreact⟩
  · exact ⟨rfl, rfl⟩
  · exact ⟨rfl, rfl⟩
  · rw [ht]; exact ⟨rfl, rfl⟩
  · exact (react_frame hreact).2

end Sys2Proof.Proofs.Events
end

section
/-! PROOFS. The host's side of the state (spec/30_encoding.md R70; 43_host_interface.md R131, R133, R134;
70_reset_and_hazards.md R155): when WAITIDLE is over, and what the protocol reports. -/

namespace Sys2Proof.Proofs.HostContract

open Sys2Proof Sys2Proof.Machine Sys2Proof.Proofs.Words Sys2Proof.Proofs.Events

/-! ## The hang -/

/-- A hang as far as the events go (R155): SEQ is busy and only admitted host accesses are to come. -/
structure Hang (s : State) : Prop where
  noFault : foundFault s = none
  busy : s.st ≠ 0#4
  onlyAccesses : ∀ e ∈ s.events, onlyHost e = true ∧ allowed s e = true

/-- What a poll and a host access in a hang leave: everything but the events to come, CRC_IN and what the HOST has read. -/
def SameTransaction (s t : State) : Prop :=
  t = { s with events := t.events, crcIn := t.crcIn, hostData := t.hostData }

theorem SameTransaction.trans {s t u : State} (hst : SameTransaction s t) (htu : SameTransaction t u) :
    SameTransaction s u := by
  unfold SameTransaction at hst htu
  rw [htu, hst]
  rfl

theorem sameTransaction_deliver (s : State) (w : Word) : SameTransaction s (s.deliver w) := rfl

theorem SameTransaction.registers {s t : State} (h : SameTransaction s t) :
    t.st = s.st ∧ t.outcome = s.outcome ∧ t.reqV = s.reqV := by
  rw [h]
  exact ⟨rfl, rfl, rfl⟩

/-- A hang goes on while nothing but accesses taken from its events happens. -/
theorem Hang.of_sameTransaction {s t : State} (hs : Hang s) (h : SameTransaction s t) (hevents : t.events ⊆ s.events) :
    Hang t where
  noFault := by rw [h]; exact hs.noFault
  busy := by rw [h.registers.1]; exact hs.busy
  onlyAccesses e he := by
    obtain ⟨hhost, hallowed⟩ := hs.onlyAccesses e (hevents he)
    refine ⟨hhost, ?_⟩
    rw [h]
    cases e <;> exact hallowed

/-- Every admitted access of the host completes (R134, R143). -/
theorem runHost_completes {a : HostAccess} (hr : a.refusal = none) (s : State) : ∃ t, runHost a s = .next t := by
  simp only [runHost, hr, decode_admitted hr]
  split
  · rcases exec_write (accReg a.descriptor) a.data s with ⟨-, -, -, h⟩ | ⟨c, h, -⟩
    · exact ⟨_, h⟩
    · exact ⟨_, h⟩
  · obtain ⟨w, h⟩ := exec_read (accReg a.descriptor) s
    exact ⟨_, h⟩

/-- One event of a hang. -/
theorem Hang.step_next {s : State} {e : Event} {rest : List Event} (hs : Hang s) (he : s.events = e :: rest) :
    ∃ t, step s = .next t ∧ SameTransaction s t ∧ t.events = rest := by
  obtain ⟨hhost, hallowed⟩ := hs.onlyAccesses e (by simp [he])
  cases e with
  | host a =>
    obtain ⟨t, ht⟩ := runHost_completes (a := a) (by simpa [allowed] using hallowed) (s.setEvents rest)
    refine ⟨t, by rw [step_host he hs.noFault, ht], ?_⟩
    rcases (runHost_next ht).2 with ⟨-, -, -, hidle, -⟩ | ⟨hframe, -⟩
    · exact absurd hidle hs.busy
    · have hevents : t.events = rest := by rw [hframe]; rfl
      refine ⟨?_, hevents⟩
      unfold SameTransaction
      rw [hevents]
      exact hframe
  | bus rsp => cases hhost
  | reset => cases hhost

/-- Any number of events of a hang. -/
theorem Hang.elapse_done (n : Nat) {s : State} (hs : Hang s) :
    ∃ t, elapse n s = .done () t ∧ SameTransaction s t ∧ Hang t := by
  induction n generalizing s with
  | zero => exact ⟨s, rfl, rfl, hs⟩
  | succ n ih =>
    cases he : s.events with
    | nil => exact ⟨s, by simp only [elapse, he], rfl, hs⟩
    | cons e rest =>
      obtain ⟨t, hstep, hsame, hevents⟩ := hs.step_next he
      have ht : Hang t := hs.of_sameTransaction hsame (by simp [hevents, he])
      obtain ⟨u, hu, hsame', hhang⟩ := ih ht
      exact ⟨u, by simp only [elapse, he, hstep, hu], hsame.trans hsame', hhang⟩

/-- R155: in a hang WAITIDLE waits for ever. -/
theorem Hang.waitIdle_waiting (gaps : List Nat) {s : State} (hs : Hang s) :
    ∃ t, waitIdle gaps s = .waiting t ∧ SameTransaction s t := by
  induction gaps generalizing s with
  | nil => exact ⟨s, rfl, rfl⟩
  | cons g gaps ih =>
    obtain ⟨t, ht, hsame, hhang⟩ := hs.elapse_done g
    have hbusy : (statusWord t).getLsbD 0 = true := by rw [statusWord_busy, busy_iff]; exact hhang.busy
    have hpolled : SameTransaction t (t.deliver (statusWord t)) := sameTransaction_deliver t _
    obtain ⟨u, hu, hsame'⟩ := ih (hhang.of_sameTransaction hpolled (List.Subset.refl _))
    refine ⟨u, ?_, hsame.trans (hpolled.trans hsame')⟩
    rw [waitIdle_cons, ht, andThen_done, hostRead_eq .status hhang.noFault, andThen_done,
      show readWord t .status = statusWord t from rfl, if_pos hbusy, hu]

/-! ## WAITIDLE -/

theorem statusWord_bit0_idle {s : State} (hidle : s.st = 0#4) : (statusWord s).getLsbD 0 = false := by
  rw [statusWord_busy, busy, hidle]; rfl

/-- A first poll in IDLE ends WAITIDLE (R70). -/
theorem waitIdle_idle (gaps : List Nat) {s : State} (hf : foundFault s = none) (hidle : s.st = 0#4) :
    waitIdle (0 :: gaps) s = .done (statusWord s) (s.deliver (statusWord s)) := by
  rw [waitIdle_cons, elapse_zero, andThen_done, hostRead_eq .status hf, andThen_done,
    show readWord s .status = statusWord s from rfl, statusWord_bit0_idle hidle]
  rfl

/-- Settles O57. -/
theorem waitIdleEndsExactlyWhenIdle : Obligations.WaitIdleEndsExactlyWhenIdle := by
  refine ⟨fun gaps s t v hdone => ?_, fun gaps s hf hidle => waitIdle_idle gaps hf hidle,
    fun gaps s hf hbusy hevents => ?_⟩
  · obtain ⟨hidle, rfl⟩ := waitIdle_done hdone
    exact ⟨hidle, rfl, statusWord_bit0_idle hidle⟩
  · obtain ⟨t, hwaiting, hsame⟩ := Hang.waitIdle_waiting gaps ⟨hf, hbusy, hevents⟩
    exact ⟨t, hwaiting, hsame.registers⟩

/-! ## The protocol -/

/-- R131 by OUTCOME: RAW plays no part where it is not OK. -/
theorem collect_of_not_ok {v : Word} (h : v.extractLsb' 1 2 ≠ outOk) (p q p' q' e : Word) :
    collect v p q e = collect v p' q' e := by
  rw [collect, collect, if_neg h, if_neg h]

theorem collect_of_none {v : Word} (h : v.extractLsb' 1 2 = outNone) (p q e : Word) : collect v p q e = .noResult := by
  simp [collect, h, outNone, outOk, outBusFail, outCrcFail]

/-- What the host has read is no part of what it is told. -/
theorem reportOf_deliver (s : State) (w : Word) : reportOf (s.deliver w) = reportOf s := rfl

/-- Both reads of RAW, with nothing between them. -/
theorem useRaw_done {s t : State} {r : RawReading} (h : useRaw 0 s = .done r t) :
    r = { primaryValue := s.rawP, secondaryValue := s.rawS } ∧ ∃ w, t = s.deliver w := by
  obtain ⟨p, u, hp, h⟩ := andThen_eq_done h
  rw [elapse_zero, andThen_done] at h
  obtain ⟨q, w, hq, h⟩ := andThen_eq_done h
  obtain ⟨-, rfl, rfl⟩ := hostRead_done (readAsReading_done hp).2
  obtain ⟨-, rfl, rfl⟩ := hostRead_done (readAsReading_done hq).2
  injection h with hr ht
  subst hr ht
  exact ⟨by simp [readWord], _, rfl⟩

/-- The reads that the STATUS word calls for report what R131 decodes from all the words, and change nothing but what the
HOST has read. -/
theorem collectReads_done {s t : State} {report : Report} (h : collectReads (statusWord s) 0 s = .done report t) :
    report = reportOf s ∧ (t = s ∨ ∃ w, t = s.deliver w) := by
  unfold collectReads at h
  split at h
  · rename_i hok
    obtain ⟨r, u, hr, h⟩ := andThen_eq_done h
    injection h with hreport ht
    subst hreport ht
    obtain ⟨rfl, hu⟩ := useRaw_done hr
    exact ⟨by simp [reportOf, collect, hok], .inr hu⟩
  · rename_i hnotOk
    split at h
    · rename_i hnone
      injection h with hreport ht
      subst hreport ht
      exact ⟨(collect_of_none hnone _ _ _).symm, .inl rfl⟩
    · obtain ⟨e, u, he, h⟩ := andThen_eq_done h
      obtain ⟨-, rfl, rfl⟩ := hostRead_done he
      injection h with hreport ht
      subst hreport ht
      exact ⟨collect_of_not_ok hnotOk _ _ _ _ _, .inr ⟨_, rfl⟩⟩

/-- Settles O58. -/
theorem protocolReportsTheOutcome : Obligations.ProtocolReportsTheOutcome := by
  refine ⟨fun gaps g g' s hbusy => by rw [protocol, if_pos ((busy_iff s).mpr hbusy)], fun gaps s t report hdone => ?_⟩
  have hreport : t.st = 0#4 ∧ report = reportOf t := by
    unfold protocol at hdone
    split at hdone
    · cases hdone
    · obtain ⟨v, u, hwait, hdone⟩ := andThen_eq_done hdone
      rw [elapse_zero, andThen_done] at hdone
      obtain ⟨_, _, -, hwait⟩ := andThen_eq_done hwait
      obtain ⟨hidle, rfl⟩ := waitIdle_done hwait
      obtain ⟨hreport, rfl | ⟨w, rfl⟩⟩ := collectReads_done hdone
      · exact ⟨hidle, hreport⟩
      · exact ⟨hidle, hreport⟩
  obtain ⟨hidle, rfl⟩ := hreport
  exact ⟨hidle, rfl, fun r => (reportOf_eq_reading_iff t r).trans (rawReading_eq_some_iff t r)⟩

end Sys2Proof.Proofs.HostContract
end

section
/-! PROOFS. The window's refusals (spec/20_memory.md R43, R46), what IDLE keeps (R53), and the request port (R54; 40_buslink.md
R59, R71). -/

namespace Sys2Proof.Proofs.Window

open Sys2Proof Sys2Proof.Machine Sys2Proof.Proofs.Invariant

/-! ## Refused accesses -/

/-- R43: outside the 32 bytes of the window. -/
theorem refusal_outsideWindow {a : HostAccess} (h : a.off < 0 ∨ 32 ≤ a.off) : a.refusal = some .outsideWindow :=
  if_pos h

/-- R46: inside the window, another width than 4 bytes. -/
theorem refusal_accessWidth {a : HostAccess} (h0 : 0 ≤ a.off) (h32 : a.off < 32) (hwidth : a.width ≠ 4) :
    a.refusal = some .accessWidth := by
  rw [HostAccess.refusal, if_neg (by omega), if_pos hwidth]

/-- R46: 32 bits inside the window, at no multiple of 4. -/
theorem refusal_misaligned {a : HostAccess} (h0 : 0 ≤ a.off) (h32 : a.off < 32) (hwidth : a.width = 4)
    (halign : a.off % 4 ≠ 0) : a.refusal = some .misaligned := by
  rw [HostAccess.refusal, if_neg (by omega), if_neg (not_not.mpr hwidth), if_pos halign]

/-- The step on an access that is not admitted is refused for the access's own reason. -/
theorem step_host_refused {s : State} {a : HostAccess} {rest : List Event} {reason : Refusal}
    (he : s.events = .host a :: rest) (hf : foundFault s = none) (hr : a.refusal = some reason) :
    step s = .refused reason := by
  rw [step_host he hf]
  simp only [runHost, hr]

/-- Settles O16, reason by reason. -/
theorem otherHostAccessesRefused : Obligations.OtherHostAccessesRefused := by
  intro s a rest he hf
  refine ⟨fun hout => ?_, fun h0 h32 hwidth => ?_, fun h0 h32 hwidth halign => ?_⟩
  · exact step_host_refused he hf (refusal_outsideWindow hout)
  · exact step_host_refused he hf (refusal_accessWidth h0 h32 hwidth)
  · exact step_host_refused he hf (refusal_misaligned h0 h32 hwidth halign)

/-! ## The outcome registers in IDLE -/

/-- Settles O43: GO leaves IDLE, the other host events keep the registers, and in IDLE no request waits for a response. -/
theorem outcomeStableWhileIdle : Obligations.OutcomeStableWhileIdle := by
  intro s t e rest hinv he hidle hstep hne hstays
  rcases step_inversion he hstep with ⟨hreset, -⟩ | ⟨-, -, rfl⟩ | ⟨a, -, ht, -⟩ | ⟨rsp, -, -, hreqV, -⟩
  · exact absurd hreset hne
  · exact absurd hstays (show (1#4 : BitVec 4) ≠ 0#4 by decide)
  · rw [ht]; exact ⟨rfl, rfl, rfl, rfl, rfl, rfl⟩
  · exact absurd hidle (hinv.reqVBusy.mp hreqV)

/-! ## The request port -/

/-- No request is issued from `s` to `t`: the port keeps its word and TRACE its requests. -/
def IssuesNone (s t : State) : Prop :=
  t.trace.map Exchange.req = s.trace.map Exchange.req ∧ t.req = s.req ∧ (t.reqV = true → s.reqV = true)

/-- One request of R59 is issued from `s` to `t`. -/
def IssuesOne (s t : State) : Prop :=
  ∃ q ∈ portWords, t.trace.map Exchange.req = s.trace.map Exchange.req ++ [q] ∧ t.req = q ∧ t.reqV = true

/-- `Issue` from a state that kept the requests of TRACE (R71). -/
theorem issuesOne_issue {s u : State} {op : BusOp} {data : Byte} (hword : reqWord op data ∈ portWords)
    (hkept : u.trace.map Exchange.req = s.trace.map Exchange.req) : IssuesOne s (u.issue op data) :=
  ⟨reqWord op data, hword, by simp [hkept], rfl, rfl⟩

/-- R59: the step requests are among the nine words. -/
theorem romReq_mem_portWords (k : TransactionStep) : romReq k ∈ portWords :=
  requestAt_stepNum k ▸ requestAt_mem_portWords (stepNum k)

/-- SEQ's reaction issues the next step's request, or STOP, or nothing (R92, R107, R110). -/
theorem react_issues {s t : State} {rsp : RspWord} (h : react rsp s = .next t) : IssuesNone s t ∨ IssuesOne s t := by
  rcases react_inversion h with ⟨-, rfl⟩ | ⟨k, k', -, -, -, rfl⟩ | ⟨-, -, rfl⟩ | ⟨k, -, -, -, rfl⟩ | ⟨k, -, -, -, rfl⟩ |
    ⟨-, -, -, -, rfl⟩ | ⟨-, -, bad, -, rfl⟩ | ⟨-, -, k, -, rfl⟩
  case inr.inl => exact .inr (issuesOne_issue (romReq_mem_portWords k') rfl)
  case inr.inr.inl => exact .inr (issuesOne_issue (requestAt_mem_portWords stClose) rfl)
  case inr.inr.inr.inl => exact .inr (issuesOne_issue (requestAt_mem_portWords stClose) rfl)
  all_goals exact .inl ⟨rfl, rfl, id⟩

/-- Settles O49: GO issues START, another host event nothing, and the answer to a request leaves the words of TRACE to SEQ's
reaction. -/
theorem traceGrowsByOneRequest : Obligations.TraceGrowsByOneRequest := by
  intro s t e rest he hstep hne
  change IssuesNone s t ∨ IssuesOne s t
  rcases step_inversion he hstep with ⟨hreset, -⟩ | ⟨-, -, rfl⟩ | ⟨a, -, ht, -⟩ | ⟨rsp, -, -, hreqV, hreact⟩
  · exact absurd hreset hne
  · exact .inr (issuesOne_issue (romReq_mem_portWords .s1) rfl)
  · rw [ht]; exact .inl ⟨rfl, rfl, id⟩
  · have hanswer : (answerLast s.trace rsp).map Exchange.req = s.trace.map Exchange.req := answerLast_map_req _ _
    rcases react_issues hreact with ⟨htrace, hreq, -⟩ | ⟨q, hq, htrace, hreq⟩
    · exact .inl ⟨htrace.trans hanswer, hreq, fun _ => hreqV⟩
    · exact .inr ⟨q, hq, htrace.trans (congrArg (· ++ [q]) hanswer), hreq⟩

end Sys2Proof.Proofs.Window
end

section
/-! PROOFS. Whole transactions (spec/20_memory.md R48; 42_sequencer.md R90, R92, R110, R111, R118): GO and the matching
responses, up to the closing stop and its end. -/

namespace Sys2Proof.Proofs.Transaction

open Sys2Proof Sys2Proof.Machine Sys2Proof.Proofs.Events

/-! ## A transaction on its way -/

section
variable (s : State) (r : TransactionStep → RspWord) (ks : List TransactionStep)

/-- B after the matching responses of the steps `ks` (R93). -/
def storedBytes (b : Buffer) : Buffer := ks.foldl (fun b k => storeByte k (rspRdata (r k)) b) b

/-- What the steps `ks` leave in TRACE: each step's request with its response (R71, R72). -/
def stepExchanges : List Exchange := ks.map fun k => { req := romReq k, rsp := some (r k) }

/-- A transaction from `s` after the matching responses of the steps `ks`, but for ST and the request port, with the events
`es` to come. -/
def afterSteps (es : List Event) : State :=
  { s with
    outcome := outNone
    crcBad := 0b00#2
    buf := storedBytes r ks s.buf
    trace := s.trace ++ stepExchanges r ks
    events := es }

/-- The same with the response of step k awaited (R92). -/
def awaitingStep (k : TransactionStep) (es : List Event) : State :=
  ((afterSteps s r ks es).setSt (stepNum k)).issue (romOp k) (romData k)

/-- All twelve steps matched, and the response of the closing stop awaited (R105). -/
def awaitingStop (es : List Event) : State :=
  ((afterSteps s r allSteps es).latch true .s12 (rspStatus (r .s12))).toClose

theorem storedBytes_snoc (k : TransactionStep) (b : Buffer) :
    storedBytes r (ks ++ [k]) b = storeByte k (rspRdata (r k)) (storedBytes r ks b) := by
  simp [storedBytes]

/-- The request of step k, answered, is one exchange more (R72). -/
theorem answerLast_stepExchanges (k : TransactionStep) :
    answerLast (s.trace ++ stepExchanges r ks ++ [{ req := romReq k, rsp := none }]) (r k) =
      s.trace ++ stepExchanges r (ks ++ [k]) := by
  rw [answerLast_append]
  simp [stepExchanges]

end

/-! ## The order of the steps, and the last step of a run -/

/-- Each step but the first comes after one whose `stepNext` it is. -/
theorem allSteps_prev {n : Nat} {k : TransactionStep} (h : allSteps[n + 1]? = some k) :
    ∃ j, allSteps[n]? = some j ∧ stepNext j = some k := by
  have hn : n < 11 := by
    obtain ⟨hlt, -⟩ := List.getElem?_eq_some_iff.mp h
    exact Nat.succ_lt_succ_iff.mp hlt
  interval_cases n <;> exact ⟨_, rfl, h⟩

/-- A run's last step. -/
theorem run_snoc {n : Nat} {s t u : State} (hrun : Sys2Proof.core.run n s = .next t) (hstep : step t = .next u) :
    Sys2Proof.core.run (n + 1) s = .next u := by
  rw [run_add n 1 hrun]
  exact run_next 0 hstep

/-! ## One event on -/

section
variable {s : State} {r : TransactionStep → RspWord} (hf : foundFault s = none)
include hf

/-- GO in IDLE (R90). -/
theorem step_go {es : List Event} (hidle : s.st = 0#4) (he : s.events = lineEvent goLine :: es) :
    step s = .next (awaitingStep s r [] .s1 es) := by
  have hdecode : decode (.hostAcc (lineAccess goLine).descriptor (lineAccess goLine).data) =
      .ok (.wrCtrl 0x00000001#32) := by decide
  have hgo : goBit 0x00000001#32 ∧ (s.setEvents es).st = 0#4 := ⟨rfl, hidle⟩
  have hstart : (s.setEvents es).go = awaitingStep s r [] .s1 es := by
    simp only [awaitingStep, afterSteps, stepExchanges, List.map_nil, List.append_nil]
    rfl
  rw [step_host_exec he hf (writeLine_admitted .ctrl _) hdecode, ← hstart]
  simp only [exec, execWrCtrl, if_pos hgo]

/-- While a transaction is on its way, `foundFault` finds nothing: it writes no ERR before its end. -/
theorem foundFault_awaiting {t : State} (herr : t.err = s.err) (hst : t.st.toNat ≤ 13) : foundFault t = none := by
  unfold foundFault at hf ⊢
  rw [herr, if_neg (by omega)]
  split at hf
  · cases hf
  · exact hf

theorem foundFault_awaitingStep (ks : List TransactionStep) (k : TransactionStep) (es : List Event) :
    foundFault (awaitingStep s r ks k es) = none :=
  foundFault_awaiting hf rfl (show (stepNum k).toNat ≤ 13 from (stepNum_le k).trans (by decide))

theorem foundFault_awaitingStop (es : List Event) : foundFault (awaitingStop s r es) = none :=
  foundFault_awaiting hf rfl (show stClose.toNat ≤ 13 by decide)

/-- The matching response of step k: its exchange is complete, and SEQ goes on from there (R72, R92). -/
theorem step_match {ks : List TransactionStep} {k : TransactionStep} (es : List Event)
    (hmatch : rspStatus (r k) = expected s.cfg k) :
    step (awaitingStep s r ks k (.bus (r k) :: es)) =
      .next (((awaitingStep s r ks k es).answer (r k)).advance k (r k)) := by
  rw [step_await rfl (foundFault_awaitingStep hf ks k _) rfl rfl rfl, State.respondAt]
  exact congrArg _ (if_pos hmatch)

/-- From step k to step k + 1 (R92). -/
theorem step_match_next {ks : List TransactionStep} {k k' : TransactionStep} (es : List Event)
    (hmatch : rspStatus (r k) = expected s.cfg k) (hnext : stepNext k = some k') :
    step (awaitingStep s r ks k (.bus (r k) :: es)) = .next (awaitingStep s r (ks ++ [k]) k' es) := by
  rw [step_match hf es hmatch, State.advance, hnext]
  simp only [awaitingStep, afterSteps, storedBytes_snoc, ← answerLast_stepExchanges]
  rfl

/-- From step 12 to CLOSE (R105). -/
theorem step_match_last {ks : List TransactionStep} (es : List Event)
    (hmatch : rspStatus (r .s12) = expected s.cfg .s12) (hlast : ks ++ [.s12] = allSteps) :
    step (awaitingStep s r ks .s12 (.bus (r .s12) :: es)) = .next (awaitingStop s r es) := by
  rw [step_match hf es hmatch, State.advance]
  simp only [awaitingStop, ← hlast, afterSteps, storedBytes_snoc, ← answerLast_stepExchanges]
  rfl

/-- The answer to the closing stop publishes what CLOSE validated (R110). -/
theorem step_stop (rstop : RspWord) (es : List Event) :
    step (awaitingStop s r (.bus rstop :: es)) = .next ((awaitingStop s r es).answer rstop).closeValidated :=
  step_close rfl (foundFault_awaitingStop hf _) rfl rfl rfl

/-! ## The events of a transaction -/

/-- R90, R92: GO and n matching responses lead to the request of step n + 1. -/
theorem run_matching {n : Nat} {k : TransactionStep} {es : List Event} (hidle : s.st = 0#4)
    (hk : allSteps[n]? = some k)
    (he : s.events = lineEvent goLine :: ((allSteps.take n).map (fun j => Event.bus (r j)) ++ es))
    (hmatch : ∀ j ∈ allSteps.take n, rspStatus (r j) = expected s.cfg j) :
    Sys2Proof.core.run (n + 1) s = .next (awaitingStep s r (allSteps.take n) k es) := by
  induction n generalizing k es with
  | zero =>
    obtain rfl : .s1 = k := by injection hk
    exact run_next 0 (step_go hf hidle he)
  | succ n ih =>
    obtain ⟨j, hj, hnext⟩ := allSteps_prev hk
    have htake : allSteps.take (n + 1) = allSteps.take n ++ [j] := by simp [List.take_add_one, hj]
    rw [htake] at he hmatch ⊢
    simp only [List.mem_append, List.mem_singleton, or_imp, forall_and, forall_eq] at hmatch
    have hbefore := ih hj (es := .bus (r j) :: es) (by simpa using he) hmatch.1
    exact run_snoc hbefore (step_match_next hf es hmatch.2 hnext)

/-- R118: GO and twelve matching responses lead to the closing stop. -/
theorem run_matching_all {es : List Event} (hidle : s.st = 0#4)
    (he : s.events = lineEvent goLine :: (allSteps.map (fun k => Event.bus (r k)) ++ es))
    (hmatch : ∀ k, rspStatus (r k) = expected s.cfg k) :
    Sys2Proof.core.run 13 s = .next (awaitingStop s r es) := by
  have hbefore := run_matching hf (n := 11) (es := .bus (r .s12) :: es) hidle rfl he fun j _ => hmatch j
  exact run_snoc hbefore (step_match_last hf es (hmatch .s12) rfl)

/-- R118: the STOP response ends the transaction after fourteen events. -/
theorem run_transaction {rstop : RspWord} {es : List Event} (hidle : s.st = 0#4)
    (he : s.events = lineEvent goLine :: (allSteps.map (fun k => Event.bus (r k)) ++ Event.bus rstop :: es))
    (hmatch : ∀ k, rspStatus (r k) = expected s.cfg k) :
    Sys2Proof.core.run 14 s = .next ((awaitingStop s r es).answer rstop).closeValidated :=
  run_snoc (run_matching_all hf hidle he hmatch) (step_stop hf rstop es)

end

/-! ## The end of a transaction -/

section
variable (s : State) (r : TransactionStep → RspWord)

/-- R48, R93: each read byte is in its place. -/
theorem answer_awaitingStop_buf (rstop : RspWord) (es : List Event) :
    ((awaitingStop s r es).answer rstop).buf =
      { b7 := rspRdata (r .s7), b8 := rspRdata (r .s8), b9 := rspRdata (r .s9),
        b10 := rspRdata (r .s10), b11 := rspRdata (r .s11), b12 := rspRdata (r .s12) } := rfl

/-- R71, R72, R79: what a transaction closed by a stop leaves in TRACE. -/
theorem answer_awaitingStop_trace (rstop : RspWord) (es : List Event) :
    ((awaitingStop s r es).answer rstop).trace =
      s.trace ++ stepExchanges r allSteps ++ [{ req := 0x500#11, rsp := some rstop }] :=
  answerLast_append _ _ rstop

end

/-- Settles O50: fourteen events to the end of CLOSE, where both triples validate (R111). -/
theorem successfulTransaction : Obligations.SuccessfulTransaction := by
  intro s r rstop rest hf hidle he hmatch hprimary hsecondary
  have hbuf := answer_awaitingStop_buf s r rstop rest
  have hok : ((awaitingStop s r rest).answer rstop).closeValidated = ((awaitingStop s r rest).answer rstop).finishOk
      (assemble (rspRdata (r .s7)) (rspRdata (r .s8))) (assemble (rspRdata (r .s10)) (rspRdata (r .s11))) := by
    simp only [State.closeValidated, primaryOk, secondaryOk, hbuf, hprimary, hsecondary, Bool.and_self, if_true]
  exact ⟨_, (run_transaction hf hidle he hmatch).trans (congrArg _ hok), rfl, rfl, rfl, rfl, rfl, rfl, rfl, rfl, rfl,
    answer_awaitingStop_trace s r rstop rest⟩

end Sys2Proof.Proofs.Transaction
end

section
/-! PROOFS. Decoding and encoding (spec/30_encoding.md R57-R64, R66, R70): `encode` reaches every well-formed word, but for the
data word of a read, and `decode` undoes it. -/

namespace Sys2Proof.Proofs.Encoding

open Sys2Proof Sys2Proof.Machine Sys2Proof.Proofs.Events

/-! ## The word of an instruction -/

@[simp] theorem reqOp_append (op : BitVec 3) (data : Byte) : reqOp (op ++ data) = op :=
  BitVec.extractLsb'_append_eq_left

@[simp] theorem reqData_append (op : BitVec 3) (data : Byte) : reqData (op ++ data) = data :=
  BitVec.extractLsb'_append_eq_right

/-- R57: WRITE's request word, whose DATA is free. -/
theorem decode_writeWord (data : Byte) (rsp : RspWord) :
    decode (.blReq (0b010#3 ++ data) rsp) = .ok (.write data rsp) := by
  simp [decode, decodeReq]

/-- Only the words of WRITE and VALIDATE hold an operand; the others are fixed. -/
theorem decode_encode (i : Instr) : decode (encode i) = .ok i := by
  cases i with
  | write data rsp => exact decode_writeWord data rsp
  | validate h l c => exact decode_validateWord h l c
  | _ => rfl

theorem wf_encode (i : Instr) : (encode i).wf = true := by
  cases i with
  | write data rsp => exact Laws.write_wf data
  | validate h l c => exact beq_iff_eq.mpr (Laws.query_wf h l c)
  | _ => rfl

/-! ## The instruction of a word, format by format -/

theorem bitVec3_cases (v : BitVec 3) :
    v = 0#3 ∨ v = 1#3 ∨ v = 2#3 ∨ v = 3#3 ∨ v = 4#3 ∨ v = 5#3 ∨ v = 6#3 ∨ v = 7#3 := by
  revert v; decide

/-- R57: a request word is its OP and its DATA. -/
theorem req_eq_append (req : ReqWord) : req = reqOp req ++ reqData req := by
  rw [reqOp, reqData, BitVec.extractLsb'_append_extractLsb'_eq_extractLsb' (by decide), BitVec.extractLsb'_eq_self]

/-- R58, R59: every op code but the reserved one is an instruction's, with any DATA for WRITE and DATA 0x00 for the others. -/
theorem exists_encode_eq_blReq {req : ReqWord} (rsp : RspWord) (hwf : (Code.blReq req rsp).wf = true) :
    ∃ i, encode i = .blReq req rsp := by
  obtain ⟨hop, hdata⟩ : reqOp req ≠ 7#3 ∧ (reqOp req = 2#3 ∨ reqData req = 0#8) := by
    simpa [Code.wf, reqOp, reqData] using hwf
  rw [req_eq_append req]
  rcases hdata with hwrite | hzero
  · exact ⟨.write (reqData req) rsp, by rw [hwrite]; rfl⟩
  rw [hzero]
  rcases bitVec3_cases (reqOp req) with h | h | h | h | h | h | h | h
  · exact ⟨.start rsp, by rw [h]; rfl⟩
  · exact ⟨.restart rsp, by rw [h]; rfl⟩
  · exact ⟨.write 0#8 rsp, by rw [h]; rfl⟩
  · exact ⟨.readAck rsp, by rw [h]; rfl⟩
  · exact ⟨.readNack rsp, by rw [h]; rfl⟩
  · exact ⟨.stop rsp, by rw [h]; rfl⟩
  · exact ⟨.status rsp, by rw [h]; rfl⟩
  · exact absurd h hop

/-- R63: an admitted descriptor is its RW bit and its register, and 0 elsewhere. -/
theorem desc_eq_append {desc : BitVec 9} (h : admittedOff desc = true) :
    desc = bitOf (desc.getLsbD 8) ++ 0#3 ++ accReg desc ++ 0#2 := by
  revert desc; decide

/-- R64: the descriptors of the reads. -/
theorem encode_decodeRead (reg : BitVec 3) :
    encode (decodeRead reg) = .hostAcc (bitOf false ++ 0#3 ++ reg ++ 0#2) 0#32 := by
  rcases bitVec3_cases reg with rfl | rfl | rfl | rfl | rfl | rfl | rfl | rfl <;> rfl

/-- R64: the descriptors of the writes. -/
theorem encode_decodeWrite (reg : BitVec 3) (data : Word) :
    encode (decodeWrite reg data) = .hostAcc (bitOf true ++ 0#3 ++ reg ++ 0#2) data := by
  rcases bitVec3_cases reg with rfl | rfl | rfl | rfl | rfl | rfl | rfl | rfl <;> rfl

/-- R64: which read a descriptor is does not depend on the data word. -/
theorem decode_hostAcc_of_read {desc : BitVec 9} (data : Word) (hread : desc.getLsbD 8 = false) :
    decode (.hostAcc desc data) = decode (.hostAcc desc 0#32) := by
  simp only [decode, decodeAcc, hread, Bool.false_eq_true, if_false]

theorem encode_rowInstr (k : TransactionStep) (rsp : RspWord) : encode (rowInstr k rsp) = .stepRom (stepNum k) rsp := by
  cases k <;> rfl

/-- R62: every ST that awaits a response has its row. -/
theorem exists_encode_eq_stepRom {st : BitVec 4} (rsp : RspWord) (hwf : (Code.stepRom st rsp).wf = true) :
    ∃ i, encode i = .stepRom st rsp := by
  rcases st_cases st with rfl | ⟨k, rfl⟩ | rfl | rfl | rfl
  · cases hwf
  · exact ⟨rowInstr k rsp, encode_rowInstr k rsp⟩
  · exact ⟨.seqClose rsp, rfl⟩
  · cases hwf
  · cases hwf

/-- R70: a word with upper byte 0 is the word of its three other bytes. -/
theorem exists_encode_eq_crcIn {word : Word} (hwf : word.extractLsb' 24 8 = 0#8) : ∃ i, encode i = .crcIn word := by
  refine ⟨.validate (word.extractLsb' 16 8) (word.extractLsb' 8 8) (word.extractLsb' 0 8), congrArg Code.crcIn ?_⟩
  rw [← hwf]
  simp (disch := decide) only [BitVec.extractLsb'_append_extractLsb'_eq_extractLsb', BitVec.extractLsb'_eq_self]

/-- Every well-formed code is an instruction's, a read's with its data word set to 0. -/
theorem exists_encode_eq {c : Code} (hwf : c.wf = true) : ∃ i, encode i = c ∨
    ∃ desc data, c = .hostAcc desc data ∧ desc.getLsbD 8 = false ∧ encode i = .hostAcc desc 0#32 := by
  cases c with
  | blReq req rsp => exact (exists_encode_eq_blReq rsp hwf).imp fun _ => .inl
  | stepRom st rsp => exact (exists_encode_eq_stepRom rsp hwf).imp fun _ => .inl
  | crcIn word => exact (exists_encode_eq_crcIn (beq_iff_eq.mp hwf)).imp fun _ => .inl
  | hostAcc desc data =>
    have hdesc := desc_eq_append hwf
    cases hrw : desc.getLsbD 8 with
    | true =>
      rw [hrw] at hdesc
      exact ⟨decodeWrite (accReg desc) data, .inl (by rw [encode_decodeWrite, ← hdesc])⟩
    | false =>
      rw [hrw] at hdesc
      exact ⟨decodeRead (accReg desc), .inr ⟨desc, data, rfl, hrw, by rw [encode_decodeRead, ← hdesc]⟩⟩

theorem wf_instr (i : Instr) : i.wf = true := by cases i <;> rfl

/-- Settles O1: `decode` undoes `encode`, and `encode` reaches every well-formed word, a read's data word aside. -/
theorem decodeEncodeAgree : Obligations.DecodeEncodeAgree := by
  refine ⟨fun i _ => ⟨wf_encode i, decode_encode i⟩, fun c hwf => ?_⟩
  obtain ⟨i, hi⟩ := exists_encode_eq hwf
  refine ⟨i, wf_instr i, ?_, hi⟩
  rcases hi with rfl | ⟨desc, data, rfl, hread, hi⟩
  · exact decode_encode i
  · rw [decode_hostAcc_of_read data hread, ← hi, decode_encode]

/-- Settles O4: past OP only WRITE's arm reads the word. -/
theorem requestDataIgnoredUnlessWrite : Obligations.RequestDataIgnoredUnlessWrite := by
  intro req req' rsp (hop : reqOp req = reqOp req') (hwrite : reqOp req ≠ 2#3)
  rw [hop] at hwrite
  simp only [decode, decodeReq, hop, if_neg hwrite]

/-- Settles O3: each word is the encoding of its instruction; RD_ERR's ignores the data word. -/
theorem specWordsDecode : Obligations.SpecWordsDecode :=
  ⟨fun rsp => decode_encode (.restart rsp), fun rsp => decode_encode (.write 0x88#8 rsp),
    fun rsp => decode_encode (.stop rsp), fun data => decode_encode (.wrCtrl data),
    fun data => (decode_hostAcc_of_read data rfl).trans (decode_encode .rdErr), fun data => decode_encode (.wrCrcIn data),
    fun rsp => decode_encode (.seqStep12 rsp), decode_encode (.validate 0xDE#8 0xAD#8 0x98#8)⟩

end Sys2Proof.Proofs.Encoding
end

section
/-! PROOFS. What an operation reads and where it stops (spec/30_encoding.md R60, R62, R65, R66, R70; 40_buslink.md R72;
41_checksum.md R89; 42_sequencer.md R92, R93, R109, R110, R119; 43_host_interface.md R120). -/

namespace Sys2Proof.Proofs.Operations

open Sys2Proof Sys2Proof.Machine Sys2Proof.Proofs.Words Sys2Proof.Proofs.Events

/-! ## Fields of a response that play no part -/

section
variable {s : State} {k : TransactionStep} {status : Byte} (r r' : Byte)

/-- R93: steps 1 to 6 store no byte. -/
theorem advance_rdata_ignored (hk : (stepNum k).toNat ≤ 6) : s.advance k (r ++ status) = s.advance k (r' ++ status) := by
  simp only [State.advance, State.capture, rspStatus_append, storeByte_of_lt (Nat.lt_succ_of_le hk)]

/-- R92, R107: on a mismatch SEQ reads the status alone. -/
theorem respondAt_of_mismatch (h : status ≠ expected s.cfg k) : s.respondAt k (r ++ status) = s.failAt k status := by
  rw [State.respondAt, rspStatus_append, if_neg h]

theorem respondAt_rdata_ignored (hk : (stepNum k).toNat ≤ 6) :
    s.respondAt k (r ++ status) = s.respondAt k (r' ++ status) := by
  by_cases h : status = expected s.cfg k
  · simp only [State.respondAt, rspStatus_append, if_pos h, advance_rdata_ignored r r' hk]
  · rw [respondAt_of_mismatch r h, respondAt_of_mismatch r' h]

end

/-- A row depends on the response only through SEQ's reaction. -/
theorem exec_rowInstr_congr {s : State} {k : TransactionStep} {rsp rsp' : RspWord}
    (h : s.respondAt k rsp = s.respondAt k rsp') : exec (rowInstr k rsp) s = exec (rowInstr k rsp') s := by
  simp only [exec_rowInstr, seqRow, h]

/-- Settles O32; the meaning of SEQ_CLOSE does not name its response. -/
theorem ignoredResponseFields : Obligations.IgnoredResponseFields := by
  refine ⟨fun s k status r r' hk => ?_, fun s k status r r' hmismatch => ?_, fun s rsp rsp' => rfl⟩
  · exact exec_rowInstr_congr (respondAt_rdata_ignored r r' hk)
  · exact exec_rowInstr_congr ((respondAt_of_mismatch r hmismatch).trans (respondAt_of_mismatch r' hmismatch).symm)

/-! ## Data of a host write -/

/-- R120: GO is bit 0, accepted in IDLE. -/
theorem exec_wrCtrl (data : Word) (s : State) :
    exec (.wrCtrl data) s = .next (if data.getLsbD 0 = true ∧ s.st = 0#4 then s.go else s) := rfl

/-- Settles O9. -/
theorem ctrlWriteReadsOnlyBitZero : Obligations.CtrlWriteReadsOnlyBitZero := by
  refine ⟨fun s data hclear => ?_, fun s d d' hsame => ?_⟩
  · rw [exec_wrCtrl, if_neg fun hgo => Bool.false_ne_true (hclear.symm.trans hgo.1)]
  · rw [exec_wrCtrl, exec_wrCtrl, hsame]

/-- R70, R127: the write of VALIDATE's word sets the three bytes. -/
theorem splitCrcIn_validateWord (h l c : Byte) : splitCrcIn (0#8 ++ h ++ l ++ c) = { high := h, low := l, chk := c } := by
  simp (disch := decide) [splitCrcIn, BitVec.extractLsb'_append_eq_of_add_le, BitVec.extractLsb'_append_eq_of_le,
    -Nat.reduceAdd]

/-- Settles O15: the expansion is the definition, and the read gives the CRC_OUT word of the bytes just written (R89). -/
theorem validateIsItsExpansion : Obligations.ValidateIsItsExpansion := by
  intro s h l c
  refine ⟨?_, _, rfl, rfl⟩
  rw [exec_validate, splitCrcIn_validateWord, ← bitOf_crcMatch { high := h, low := l, chk := c }]
  exact exec_readInstr .crcOut _

/-! ## Rows that stop -/

/-- R31, R109: the numbers that name no step. -/
theorem stepOfNum_eq_none {n : BitVec 4} (h : n = 0#4 ∨ 13 ≤ n.toNat) : stepOfNum n = none := by
  cases hstep : stepOfNum n with
  | none => rfl
  | some k =>
    rw [stepNum_of_stepOfNum hstep] at h
    rcases h with hzero | hlarge
    · exact absurd hzero (stepNum_ne_zero k)
    · exact absurd (stepNum_le k) (by omega)

/-- Settles O31. -/
theorem stepRowsStopOffTheirState : Obligations.StepRowsStopOffTheirState := by
  refine ⟨fun s k rsp hst => ?_, fun s rsp hst => if_neg hst, fun s rsp hclose hfailed hnum => ?_⟩
  · rw [exec_rowInstr, seqRow, if_neg hst]
  · rw [exec_seqClose rsp hclose, hfailed]
    simp [State.closeFailed, stepOfNum_eq_none hnum]

/-! ## Events that stop -/

section
variable (s : State) (rsp : RspWord)

/-- R72, U16. -/
theorem runBus_noRequest (hreqV : s.reqV = false) : runBus rsp s = .refused .noRequest := by
  simp [runBus, hreqV]

/-- R66, U7. -/
theorem runBus_reservedRequest (hreqV : s.reqV = true) (hop : reqOp s.req = 7#3) :
    runBus rsp s = .fault .reservedRequest := by
  simp [runBus, hreqV, decode, (decodeReq_bad_iff s.req rsp).mpr hop]

/-- R59, U9. -/
theorem runBus_dataWithoutWrite (hreqV : s.reqV = true) (hop : reqOp s.req ≠ 7#3) (hwrite : reqOp s.req ≠ 2#3)
    (hdata : reqData s.req ≠ 0#8) : runBus rsp s = .fault .dataWithoutWrite := by
  obtain ⟨i, hi⟩ := decodeReq_ok rsp hop
  simp [runBus, hreqV, decode, hi, dataWithoutWrite, hwrite, hdata]

end

/-- Settles O35. -/
theorem stepWithoutAnEnabledEvent : Obligations.StepWithoutAnEnabledEvent := by
  refine ⟨fun s hnone => by rw [step, hnone], fun s rest rsp hf he => ?_⟩
  rw [step_bus he hf]
  exact ⟨runBus_noRequest (s.setEvents rest) rsp, runBus_reservedRequest (s.setEvents rest) rsp,
    runBus_dataWithoutWrite (s.setEvents rest) rsp⟩

end Sys2Proof.Proofs.Operations
end

section
/-! PROOFS. The request port's answers (spec/40_buslink.md R72-R80): when a bus-link operation answers and when it is refused,
and that no event an environment gives stops the machine (43_host_interface.md R134; 70_reset_and_hazards.md R149). -/

namespace Sys2Proof.Proofs.BusLink

open Sys2Proof Sys2Proof.Machine Sys2Proof.Proofs.Invariant Sys2Proof.Proofs.Events Sys2Proof.Proofs.HostContract
  Sys2Proof.Proofs.Encoding

/-! ## Events that the environment may give -/

/-- R30, R31: a consistent ERR holds no value that U10 names. -/
theorem errReg_le_of_consistent {e : ErrReg} (h : e.Consistent) : e.kind.toNat ≤ 5 ∧ e.step.toNat ≤ 13 := by
  rcases h with ⟨hstep, hkind⟩ | ⟨k, hstep, hkind⟩ | ⟨hstep, hkind⟩
  all_goals rw [hstep, hkind]
  · decide
  · exact ⟨(kindOf_le k).trans (by decide), (stepNum_le k).trans (by decide)⟩
  · decide

theorem foundFault_of_inv {s : State} (h : s.Inv) : foundFault s = none := by
  have hst := h.stReached
  obtain ⟨hkind, hstep⟩ := errReg_le_of_consistent h.errConsistent
  rw [foundFault, if_neg (by omega), if_neg (by omega)]

/-- R110: the end of CLOSE has a meaning whenever the latches hold a record. -/
theorem close_completes {s : State} (h : CloseRecord s) :
    ∃ t, (if s.pOk then Host.Outcome.next s.closeValidated else s.closeFailed) = .next t := by
  rcases h with ⟨hok, -, -⟩ | ⟨hfailed, k, hk, -, -⟩
  · exact ⟨_, by rw [hok]; rfl⟩
  · exact ⟨s.finishBusFail k s.pStatus, by simp [hfailed, State.closeFailed, hk, stepOfNum_stepNum]⟩

/-- R72: a response to the outstanding request completes, whatever its two fields. -/
theorem step_bus_completes {s : State} {rsp : RspWord} {rest : List Event} (h : s.Inv)
    (he : s.events = .bus rsp :: rest) (hreqV : s.reqV = true) : ∃ t, step s = .next t := by
  have hf := foundFault_of_inv h
  have hbusy : s.st ≠ 0#4 := h.reqVBusy.mp hreqV
  have hreq := h.reqOfSt hbusy
  have hreached := h.stReached
  rcases st_cases s.st with hidle | ⟨k, hk⟩ | hclose | hst | hst
  · exact absurd hidle hbusy
  · exact ⟨_, step_await he hf hreqV hk (by rw [hreq, hk, requestAt_stepNum])⟩
  · rw [step_close he hf hreqV hclose (by rw [hreq, hclose]; rfl)]
    exact close_completes (s := (s.setEvents rest).answer rsp) (h.closeLatch hclose)
  · exact absurd hreached (by rw [hst]; decide)
  · exact absurd hreached (by rw [hst]; decide)

/-- Settles O41, by the kind of event; that a step takes one event is O48. -/
theorem allowedEventsProceed : Obligations.AllowedEventsProceed := by
  intro s e rest hinv he hallowed
  obtain ⟨t, ht⟩ : ∃ t, step s = .next t := by
    cases e with
    | host a =>
      rw [step_host he (foundFault_of_inv hinv)]
      exact runHost_completes (beq_iff_eq.mp hallowed) _
    | bus rsp => exact step_bus_completes hinv he hallowed
    | reset => exact ⟨_, step_reset he⟩
  obtain ⟨-, e', he'⟩ := parametersNeverChange s t ht
  exact ⟨t, ht, (List.cons.inj (he.symm.trans he')).2.symm⟩

/-! ## One answer per request -/

section
variable {s : State} {rsp : RspWord} {named : Bool}

/-- R72: the operation asked for clears REQ_V and records its response. -/
theorem answerReq_of_named {l : List Exchange} {e : Exchange} (hreqV : s.reqV = true) (htrace : s.trace = l ++ [e])
    (hnamed : named = true) : answerReq named rsp s =
      .next { s with reqV := false, trace := l ++ [{ req := e.req, rsp := some rsp }] } := by
  rw [answerReq, if_pos hreqV, if_pos hnamed, State.answer, htrace, answerLast_append]

theorem answerReq_noRequest (hreqV : s.reqV = false) : answerReq named rsp s = .refused .noRequest := by
  simp [answerReq, hreqV]

theorem answerReq_otherRequest (hreqV : s.reqV = true) (hnamed : ¬ named = true) :
    answerReq named rsp s = .refused .otherRequest := by
  rw [answerReq, if_pos hreqV, if_neg hnamed]

end

/-- R58: which operation REQ asks for is its OP. -/
theorem asksFor_iff {s : State} {op : BusOp} : asksFor s op = true ↔ s.req.extractLsb' 8 3 = op.code := beq_iff_eq

/-- R57, R76: of a WRITE, DATA counts too: the whole word is named. -/
theorem asksForWrite_iff {s : State} {data : Byte} :
    (asksFor s .write && reqData s.req == data) = true ↔ s.req = 0b010#3 ++ data := by
  rw [Bool.and_eq_true, beq_iff_eq]
  constructor
  · rintro ⟨hop, hdata⟩
    rw [req_eq_append s.req, hdata, show reqOp s.req = 0b010#3 from beq_iff_eq.mp hop]
  · intro hreq
    simp [asksFor, hreq, BusOp.code]

/-- Settles O5: each meaning is `answerReq` of its own request. -/
theorem busLinkOpsAnswerTheirRequest : Obligations.BusLinkOpsAnswerTheirRequest := by
  intro s rsp l e hreqV htrace
  have hanswer (op : BusOp) (hop : s.req.extractLsb' 8 3 = op.code) :=
    answerReq_of_named (rsp := rsp) hreqV htrace (asksFor_iff.mpr hop)
  exact ⟨hanswer .start, hanswer .restart, fun data hreq => answerReq_of_named hreqV htrace (asksForWrite_iff.mpr hreq),
    hanswer .readAck, hanswer .readNack, hanswer .stop, hanswer .status⟩

/-- Settles O6. -/
theorem busLinkOpsStopWithoutTheirRequest : Obligations.BusLinkOpsStopWithoutTheirRequest := by
  intro s rsp data
  refine ⟨fun hnone => ?_, fun hreqV => ?_⟩
  · and_intros
    all_goals exact answerReq_noRequest hnone
  · have hrefuse (op : BusOp) (hop : s.req.extractLsb' 8 3 ≠ op.code) :=
      answerReq_otherRequest (rsp := rsp) hreqV (mt asksFor_iff.mp hop)
    exact ⟨hrefuse .start, hrefuse .restart, fun hreq => answerReq_otherRequest hreqV (mt asksForWrite_iff.mp hreq),
      hrefuse .readAck, hrefuse .readNack, hrefuse .stop, hrefuse .status⟩

end Sys2Proof.Proofs.BusLink
end

section
/-! PROOFS. The checksum validator (spec/41_checksum.md R81-R87) and a transaction whose triples do not both validate
(R88; 42_sequencer.md R92, R110, R112, R118). A round of the shift-xor loop is linear over XOR and loses no information, so
the checksum is affine and a bijection in each byte. -/

namespace Sys2Proof.Proofs.Checksum

open Sys2Proof Sys2Proof.Machine Sys2Proof.Proofs.Words Sys2Proof.Proofs.Transaction

/-! ## The shift-xor loop is linear -/

/-- XOR of two values with one offset. -/
theorem xor_offset_cancel (a b m : Byte) : a ^^^ m ^^^ (b ^^^ m) = a ^^^ b := by
  rw [BitVec.xor_comm b, BitVec.xor_assoc, xor_cancel_left]

theorem shift1_of_bit7 {r : Byte} (h : r.getLsbD 7 = true) : shift1 r = r <<< 1 ^^^ poly := if_pos h

theorem shift1_of_not_bit7 {r : Byte} (h : r.getLsbD 7 = false) : shift1 r = r <<< 1 :=
  if_neg (Bool.eq_false_iff.mp h)

/-- R81: bit 7 of `a ^^^ b` is set when one of the two is, and then one `poly` enters; two cancel. -/
theorem shift1_xor (a b : Byte) : shift1 (a ^^^ b) = shift1 a ^^^ shift1 b := by
  have hbit : (a ^^^ b).getLsbD 7 = (a.getLsbD 7 ^^ b.getLsbD 7) := BitVec.getLsbD_xor
  cases ha : a.getLsbD 7 <;> cases hb : b.getLsbD 7 <;> rw [ha, hb] at hbit
  case false.false =>
    rw [shift1_of_not_bit7 hbit, shift1_of_not_bit7 ha, shift1_of_not_bit7 hb, BitVec.shiftLeft_xor_distrib]
  case false.true =>
    rw [shift1_of_bit7 hbit, shift1_of_not_bit7 ha, shift1_of_bit7 hb, BitVec.shiftLeft_xor_distrib, BitVec.xor_assoc]
  case true.false =>
    rw [shift1_of_bit7 hbit, shift1_of_bit7 ha, shift1_of_not_bit7 hb, BitVec.shiftLeft_xor_distrib]
    ac_rfl
  case true.true =>
    rw [shift1_of_not_bit7 hbit, shift1_of_bit7 ha, shift1_of_bit7 hb, xor_offset_cancel, BitVec.shiftLeft_xor_distrib]

theorem shiftRounds_xor (n : Nat) (a b : Byte) : shiftRounds n (a ^^^ b) = shiftRounds n a ^^^ shiftRounds n b := by
  induction n generalizing a b with
  | zero => rfl
  | succ n ih => simp only [shiftRounds, shift1_xor, ih]

theorem shift8_xor (a b : Byte) : shift8 (a ^^^ b) = shift8 a ^^^ shift8 b := shiftRounds_xor 8 a b

/-! ## The shift-xor loop loses no information -/

/-- A round shifts bit 7 out, but bit 0 of the polynomial keeps it. -/
theorem shift1_bit0 (r : Byte) : (shift1 r).getLsbD 0 = r.getLsbD 7 := by
  cases h : r.getLsbD 7 with
  | false => rw [shift1_of_not_bit7 h]; simp
  | true => rw [shift1_of_bit7 h, BitVec.getLsbD_xor]; simp [poly]

theorem shift1_eq_zero {r : Byte} (h : shift1 r = 0#8) : r = 0#8 := by
  have hbit7 : r.getLsbD 7 = false := by rw [← shift1_bit0, h]; rfl
  have hshift : r <<< 1 = 0#8 := shift1_of_not_bit7 hbit7 ▸ h
  have hsmall : r.toNat < 128 := BitVec.toNat_lt_of_msb_false ((BitVec.msb_eq_getLsbD_last r).trans hbit7)
  bv_omega

theorem shift1_injective : Function.Injective shift1 := fun a b h =>
  BitVec.xor_eq_zero_iff.mp <| shift1_eq_zero <| by rw [shift1_xor, h, BitVec.xor_self]

theorem shiftRounds_bijective (n : Nat) : Function.Bijective (shiftRounds n) := by
  induction n with
  | zero => exact Function.bijective_id
  | succ n ih => exact ih.comp (Finite.injective_iff_bijective.mp shift1_injective)

theorem shift8_bijective : Function.Bijective shift8 := shiftRounds_bijective 8

/-! ## The checksum -/

theorem xor_right_bijective (m : Byte) : Function.Bijective fun r : Byte => r ^^^ m :=
  Function.Involutive.bijective fun r => xor_cancel_right r m

theorem xor_left_bijective (m : Byte) : Function.Bijective fun r : Byte => m ^^^ r :=
  Function.Involutive.bijective fun r => xor_cancel_left m r

theorem crc8_low_bijective (h : Byte) : Function.Bijective fun l => crc8 h l :=
  shift8_bijective.comp (xor_left_bijective (shift8 (seed ^^^ h)))

theorem crc8_high_bijective (l : Byte) : Function.Bijective fun h => crc8 h l :=
  shift8_bijective.comp ((xor_right_bijective l).comp (shift8_bijective.comp (xor_left_bijective seed)))

/-- R83. -/
theorem validate_iff {h l c : Byte} : validate h l c = true ↔ c = crc8 h l := by
  rw [validate, beq_iff_eq, eq_comm]

theorem validate_eq_false_iff {h l c : Byte} : validate h l c = false ↔ c ≠ crc8 h l := by
  rw [← Bool.not_eq_true, validate_iff]

/-- Settles O19. -/
theorem exactlyOneChecksum : Obligations.ExactlyOneChecksum :=
  ⟨fun _ _ _ => validate_iff, fun h l => ⟨crc8 h l, validate_iff.mpr rfl, fun _ => validate_iff.mp⟩,
    crc8_low_bijective, crc8_high_bijective⟩

theorem xor_twoPow_ne {i : Nat} (hi : i < 8) (r : Byte) : r ^^^ BitVec.twoPow 8 i ≠ r := by
  intro h
  have hbit := congrArg (fun r => r.getLsbD i) h
  simp [hi] at hbit

/-- Settles O20: crc8 sends the flipped byte elsewhere, being injective in each byte (R85). -/
theorem singleBitCorruptionDetected : Obligations.SingleBitCorruptionDetected := by
  intro h l c i hi hvalid
  obtain rfl := validate_iff.mp hvalid
  simp only [validate_eq_false_iff]
  refine ⟨fun heq => ?_, fun heq => ?_, ?_⟩
  · exact xor_twoPow_ne hi h ((crc8_high_bijective l).injective heq.symm)
  · exact xor_twoPow_ne hi l ((crc8_low_bijective h).injective heq.symm)
  · exact xor_twoPow_ne hi (crc8 h l)

/-- R82: the payload enters linearly, the seed as the checksum of the zero payload. -/
theorem crc8_eq_linear_xor_zero (h l : Byte) : crc8 h l = shift8 (shift8 h ^^^ l) ^^^ crc8 0x00#8 0x00#8 := by
  rw [crc8, crc8, BitVec.xor_zero, BitVec.xor_zero, shift8_xor seed h, BitVec.xor_assoc, shift8_xor (shift8 seed),
    BitVec.xor_comm]

theorem crc8_xor (h l h' l' : Byte) : crc8 (h ^^^ h') (l ^^^ l') = crc8 h l ^^^ crc8 h' l' ^^^ crc8 0x00#8 0x00#8 := by
  have hlinear : shift8 (shift8 (h ^^^ h') ^^^ (l ^^^ l')) = shift8 (shift8 h ^^^ l) ^^^ shift8 (shift8 h' ^^^ l') := by
    simp only [shift8_xor]
    ac_rfl
  rw [crc8_eq_linear_xor_zero (h ^^^ h'), crc8_eq_linear_xor_zero h, crc8_eq_linear_xor_zero h', xor_offset_cancel,
    hlinear]

/-- Settles O21: affinity in general, the values by evaluation. -/
theorem checksumIsAffine : Obligations.ChecksumIsAffine := by
  refine ⟨crc8_xor, crc8_zero, ?_⟩
  decide +kernel

/-! ## A transaction that fails its checksum -/

theorem bitOf_append_getLsbD_zero (a b : Bool) : (bitOf a ++ bitOf b).getLsbD 0 = b := by
  rw [BitVec.getLsbD_append]
  cases b <;> rfl

theorem bitOf_append_getLsbD_one (a b : Bool) : (bitOf a ++ bitOf b).getLsbD 1 = a := by
  rw [BitVec.getLsbD_append]
  cases a <;> rfl

/-- Settles O51: fourteen events to the end of CLOSE, where a triple does not validate (R112). -/
theorem checksumFailureTransaction : Obligations.ChecksumFailureTransaction := by
  intro s r rstop rest hf hidle he hmatch hinvalid
  have hbuf := answer_awaitingStop_buf s r rstop rest
  have hcrc : ((awaitingStop s r rest).answer rstop).closeValidated = ((awaitingStop s r rest).answer rstop).finishCrc
      (bitOf (!validate (rspRdata (r .s10)) (rspRdata (r .s11)) (rspRdata (r .s12))) ++
        bitOf (!validate (rspRdata (r .s7)) (rspRdata (r .s8)) (rspRdata (r .s9)))) s.cfg.expDataRNack := by
    simp only [State.closeValidated, primaryOk, secondaryOk, hbuf, hinvalid, Bool.false_eq_true, if_false]
    exact congrArg _ (hmatch .s12)
  exact ⟨_, (run_transaction hf hidle he hmatch).trans (congrArg _ hcrc), rfl, rfl, rfl,
    bitOf_append_getLsbD_zero _ _, bitOf_append_getLsbD_one _ _, rfl, rfl, rfl, rfl, rfl,
    answer_awaitingStop_trace s r rstop rest⟩

end Sys2Proof.Proofs.Checksum
end

section
/-! PROOFS. The step-ROM rows (spec/42_sequencer.md R90-R112): GO, the matching and the failing branch of each step, CLOSE, and
the transaction that its first mismatch ends (R115, R118). -/

namespace Sys2Proof.Proofs.Sequencer

open Sys2Proof Sys2Proof.Machine Sys2Proof.Proofs.Events Sys2Proof.Proofs.Operations
  Sys2Proof.Proofs.Transaction

/-! ## GO -/

/-- Settles O7. -/
theorem goAcceptedIssuesStart : Obligations.GoAcceptedIssuesStart := by
  intro s data hgo hidle
  rw [exec_wrCtrl, if_pos ⟨hgo, hidle⟩]
  rfl

/-- Settles O8. -/
theorem goWhileBusyIgnored : Obligations.GoWhileBusyIgnored := by
  intro s data hgo hbusy
  rw [exec_wrCtrl, if_neg fun h => hbusy h.2]

/-! ## A matching response -/

/-- R92, R93: the row of step k on its expected status, where a step k' follows. -/
theorem exec_rowInstr_match {s : State} {k k' : TransactionStep} {rdata status : Byte} (hst : s.st = stepNum k)
    (hmatch : status = expected s.cfg k) (hnext : stepNext k = some k') :
    exec (rowInstr k (rdata ++ status)) s =
      .next (((s.capture k rdata).setSt (stepNum k')).issue (romOp k') (romData k')) := by
  rw [exec_rowInstr, seqRow_selected _ hst, State.respondAt, rspStatus_append, if_pos hmatch, State.advance, hnext]
  simp only [rspRdata_append]

/-- Settles O25: the steps 1 to 6 store no byte. -/
theorem matchedStepsOneToSix : Obligations.MatchedStepsOneToSix := by
  intro s rdata status
  exact ⟨fun hst hmatch => exec_rowInstr_match (k := .s1) hst hmatch rfl,
    fun hst hmatch => exec_rowInstr_match (k := .s2) hst hmatch rfl,
    fun hst hmatch => exec_rowInstr_match (k := .s3) hst hmatch rfl,
    fun hst hmatch => exec_rowInstr_match (k := .s4) hst hmatch rfl,
    fun hst hmatch => exec_rowInstr_match (k := .s5) hst hmatch rfl,
    fun hst hmatch => exec_rowInstr_match (k := .s6) hst hmatch rfl⟩

/-- Settles O26. -/
theorem matchedReadStepsStore : Obligations.MatchedReadStepsStore := by
  intro s rdata status hmatch
  exact ⟨fun hst => exec_rowInstr_match (k := .s7) hst hmatch rfl,
    fun hst => exec_rowInstr_match (k := .s8) hst hmatch rfl,
    fun hst => exec_rowInstr_match (k := .s9) hst hmatch rfl,
    fun hst => exec_rowInstr_match (k := .s10) hst hmatch rfl,
    fun hst => exec_rowInstr_match (k := .s11) hst hmatch rfl⟩

/-! ## The tables of the failure exit -/

/-- R106: the steps that SOURCE follows with a stop. -/
theorem stopAfterFail_source_iff (k : TransactionStep) :
    stopAfterFail .source k = true ↔ stepNum k ∈ [2#4, 3#4, 4#4, 6#4] := by
  cases k <;> decide

/-- Settles O23; that a matched step 12 is closed under both policies is O27. -/
theorem stopPolicyTable : Obligations.StopPolicyTable :=
  ⟨fun k => ⟨rfl, stopAfterFail_source_iff k⟩, rfl,
    fun s rdata hst => ⟨_, matchedStepTwelveLatches s rdata _ hst rfl, rfl, rfl, rfl⟩⟩

/-- Settles O24, row by row. -/
theorem failureClassTable : Obligations.FailureClassTable := by
  intro k
  cases k <;> decide

/-! ## A failing response -/

/-- R92, R107: the row of step k on any other status is the failure exit. -/
theorem exec_rowInstr_mismatch {s : State} {k : TransactionStep} {status : Byte} (rdata : Byte) (hst : s.st = stepNum k)
    (hmiss : status ≠ expected s.cfg k) : exec (rowInstr k (rdata ++ status)) s = .next (s.failAt k status) := by
  rw [exec_rowInstr, seqRow_selected _ hst, respondAt_of_mismatch rdata hmiss]

theorem failAt_stop {s : State} {k : TransactionStep} (status : Byte) (hstop : stopAfterFail s.cfg.stopPolicy k = true) :
    s.failAt k status = (s.latch false k status).toClose := if_pos hstop

theorem failAt_noStop {s : State} {k : TransactionStep} (status : Byte) (hstop : stopAfterFail s.cfg.stopPolicy k = false) :
    s.failAt k status = s.finishBusFail k status := if_neg (Bool.eq_false_iff.mp hstop)

/-- Settles O28. -/
theorem mismatchWithStopEntersClose : Obligations.MismatchWithStopEntersClose := by
  intro s k rdata status hst hmiss hstop
  rw [exec_rowInstr_mismatch rdata hst hmiss, failAt_stop status hstop]
  rfl

/-- Settles O29. -/
theorem mismatchWithoutStopFinishes : Obligations.MismatchWithoutStopFinishes := by
  intro s k rdata status hst hmiss hstop
  rw [exec_rowInstr_mismatch rdata hst hmiss, failAt_noStop status hstop]
  rfl

/-! ## CLOSE -/

/-- R88. -/
theorem primaryOk_iff {b : Buffer} : primaryOk b = true ↔ crc8 b.b7 b.b8 = b.b9 := beq_iff_eq

/-- R88. -/
theorem secondaryOk_iff {b : Buffer} : secondaryOk b = true ↔ crc8 b.b10 b.b11 = b.b12 := beq_iff_eq

/-- A bit of CRC_BAD is set where its triple does not validate (R112). -/
theorem bitOf_not_validate (h l c : Byte) : bitOf (!validate h l c) = if crc8 h l = c then 0#1 else 1#1 := by
  unfold validate
  by_cases hvalid : crc8 h l = c
  · rw [if_pos hvalid, beq_iff_eq.mpr hvalid]; rfl
  · rw [if_neg hvalid, beq_eq_false_iff_ne.mpr hvalid]; rfl

/-- R110: the record of a failed step k is published as it was latched. -/
theorem closeFailed_of_pStep {s : State} {k : TransactionStep} (hk : s.pStep = stepNum k) :
    s.closeFailed = .next (s.finishBusFail k s.pStatus) := by
  rw [State.closeFailed, hk, stepOfNum_stepNum]

section
variable {s : State} (rsp : RspWord) (hclose : s.st = 13#4)
include hclose

theorem exec_seqClose_ok (hok : s.pOk = true) : exec (.seqClose rsp) s = .next s.closeValidated :=
  (exec_seqClose rsp hclose).trans (if_pos hok)

theorem exec_seqClose_failed {k : TransactionStep} (hfailed : s.pOk = false) (hk : s.pStep = stepNum k) :
    exec (.seqClose rsp) s = .next (s.finishBusFail k s.pStatus) := by
  rw [exec_seqClose rsp hclose, if_neg (Bool.eq_false_iff.mp hfailed), closeFailed_of_pStep hk]

end

/-- Settles O30, by the three ends of CLOSE. -/
theorem closeCompletionPublishes : Obligations.CloseCompletionPublishes := by
  intro s rsp hclose
  refine ⟨fun hok hprimary hsecondary => ?_, fun hok hinvalid => ?_, fun hfailed k hk => ?_⟩
  · have hvalid : (primaryOk s.buf && secondaryOk s.buf) = true :=
      Bool.and_eq_true_iff.mpr ⟨primaryOk_iff.mpr hprimary, secondaryOk_iff.mpr hsecondary⟩
    rw [exec_seqClose_ok rsp hclose hok, State.closeValidated, if_pos hvalid]
    rfl
  · rw [← primaryOk_iff, ← secondaryOk_iff, ← Bool.and_eq_true] at hinvalid
    rw [exec_seqClose_ok rsp hclose hok, State.closeValidated, if_neg hinvalid, ← bitOf_not_validate, ← bitOf_not_validate]
    rfl
  · exact exec_seqClose_failed rsp hclose hfailed hk

/-! ## A transaction that its first mismatch ends -/

section
variable (s : State) (r : TransactionStep → RspWord) (ks : List TransactionStep) (k : TransactionStep)

theorem allSteps_take_succ {n : Nat} {k : TransactionStep} (hk : allSteps[n]? = some k) :
    allSteps.take (n + 1) = allSteps.take n ++ [k] := by simp [List.take_add_one, hk]

/-- The steps `ks` matched, and SEQ's reaction to the mismatch at step k is to come (R107). -/
def failingStep (es : List Event) : State := (awaitingStep s r ks k es).answer (r k)

/-- The same with the record latched, and the response of the closing stop awaited (R107). -/
def awaitingFailStop (es : List Event) : State := ((failingStep s r ks k es).latch false k (rspStatus (r k))).toClose

/-- R72: the failing step's request is the last one of TRACE, and answered. -/
theorem failingStep_trace (es : List Event) :
    (failingStep s r ks k es).trace = s.trace ++ stepExchanges r (ks ++ [k]) := answerLast_stepExchanges s r ks k

/-- R79: the closing stop comes after it. -/
theorem answer_awaitingFailStop_trace (rstop : RspWord) (es : List Event) :
    ((awaitingFailStop s r ks k es).answer rstop).trace =
      s.trace ++ stepExchanges r (ks ++ [k]) ++ [{ req := 0x500#11, rsp := some rstop }] := by
  rw [← failingStep_trace s r ks k es]
  exact answerLast_append _ _ rstop

end

section
variable {s : State} {r : TransactionStep → RspWord} (hf : foundFault s = none)
include hf

/-- The response of step k that does not match: its exchange is complete, and SEQ takes the failure exit (R72, R107). -/
theorem step_mismatch {ks : List TransactionStep} {k : TransactionStep} (es : List Event)
    (hmiss : rspStatus (r k) ≠ expected s.cfg k) :
    step (awaitingStep s r ks k (.bus (r k) :: es)) = .next ((failingStep s r ks k es).failAt k (rspStatus (r k))) := by
  rw [step_await rfl (foundFault_awaitingStep hf ks k _) rfl rfl rfl, State.respondAt]
  exact congrArg _ (if_neg hmiss)

/-- The answer to the closing stop publishes the failure that was latched (R110). -/
theorem step_failStop {ks : List TransactionStep} {k : TransactionStep} (rstop : RspWord) (es : List Event) :
    step (awaitingFailStop s r ks k (.bus rstop :: es)) =
      .next (((awaitingFailStop s r ks k es).answer rstop).finishBusFail k (rspStatus (r k))) := by
  have hfound : foundFault (awaitingFailStop s r ks k (.bus rstop :: es)) = none :=
    foundFault_awaiting hf rfl (show stClose.toNat ≤ 13 by decide)
  rw [step_close rfl hfound rfl rfl rfl]
  exact closeFailed_of_pStep rfl

/-- R115: GO, n matching responses and the mismatch at the step that follows. -/
theorem run_mismatch {n : Nat} {k : TransactionStep} {es : List Event} (hidle : s.st = 0#4) (hk : allSteps[n]? = some k)
    (he : s.events = lineEvent goLine :: ((allSteps.take (n + 1)).map (fun j => Event.bus (r j)) ++ es))
    (hmatch : ∀ j ∈ allSteps.take n, rspStatus (r j) = expected s.cfg j) (hmiss : rspStatus (r k) ≠ expected s.cfg k) :
    Sys2Proof.core.run (n + 2) s =
      .next ((failingStep s r (allSteps.take n) k es).failAt k (rspStatus (r k))) := by
  rw [allSteps_take_succ hk, List.map_append, List.append_assoc] at he
  exact run_snoc (run_matching hf hidle hk he hmatch) (step_mismatch hf es hmiss)

end

/-- Settles O52: after the mismatch the transaction is over, or over with the answer to its stop. -/
theorem failFastTransaction : Obligations.FailFastTransaction := by
  intro s n k r rstop rest hf hidle hk hmatch hmiss he
  rw [allSteps_take_succ hk]
  cases hstop : stopAfterFail s.cfg.stopPolicy k with
  | false =>
    rw [hstop] at he
    have hfail := run_mismatch hf (es := rest) hidle hk he hmatch hmiss
    have hend := hfail.trans (congrArg _ (failAt_noStop _ hstop))
    refine ⟨_, hend, rfl, rfl, rfl, rfl, rfl, rfl, rfl, rfl, rfl, ?_⟩
    exact (failingStep_trace s r _ k rest).trans (List.append_nil _).symm
  | true =>
    rw [hstop] at he
    have hfail := run_mismatch hf (es := .bus rstop :: rest) hidle hk he hmatch hmiss
    have hlatched := hfail.trans (congrArg _ (failAt_stop _ hstop))
    refine ⟨_, run_snoc hlatched (step_failStop hf rstop rest), rfl, rfl, rfl, rfl, rfl, rfl, rfl, rfl, rfl, ?_⟩
    exact answer_awaitingFailStop_trace s r _ k rstop rest

end Sys2Proof.Proofs.Sequencer
end

section
/-! PROOFS. A busy sequencer (spec/42_sequencer.md R113; 70_reset_and_hazards.md R155, R161): what moves it, how long a hang
lasts, and that the host's events and the BUS agent's answers do not meet. -/

namespace Sys2Proof.Proofs.Busy

open Sys2Proof Sys2Proof.Machine Sys2Proof.Proofs.Operations Sys2Proof.Proofs.Sequencer

/-! ## What moves a busy sequencer -/

/-- Settles O42: a GO is accepted in IDLE alone. -/
theorem onlyResponseOrResetMovesBusySequencer : Obligations.OnlyResponseOrResetMovesBusySequencer := by
  intro s t e rest he hbusy hstep
  rcases step_inversion he hstep with ⟨hreset, -⟩ | ⟨-, hidle, -⟩ | ⟨a, -, ht, -⟩ | ⟨rsp, hbus, -, hreqV, -⟩
  · exact .inr (.inl hreset)
  · exact absurd hidle hbusy
  · exact .inr (.inr ht)
  · exact .inl ⟨rsp, hbus, hreqV⟩

/-- R113: a host event in a busy state. -/
theorem step_onlyHost {s t : State} {e : Event} {rest : List Event} (he : s.events = e :: rest) (hbusy : s.st ≠ 0#4)
    (hhost : onlyHost e = true) (hstep : step s = .next t) :
    t = { s with events := rest, crcIn := t.crcIn, hostData := t.hostData } := by
  rcases onlyResponseOrResetMovesBusySequencer s t e rest he hbusy hstep with ⟨rsp, rfl, -⟩ | rfl | ht
  · cases hhost
  · cases hhost
  · exact ht

/-- A run that goes on has a first step and a run from there. -/
theorem run_succ_next {n : Nat} {s t : State} (h : Sys2Proof.core.run (n + 1) s = .next t) :
    ∃ u, step s = .next u ∧ Sys2Proof.core.run n u = .next t := by
  simp only [Host.Core.run] at h
  split at h
  · exact ⟨_, ‹_›, h⟩
  · cases h
  · cases h

/-- Settles O53, by induction on the number of steps. -/
theorem hangLastsUntilResponseOrReset : Obligations.HangLastsUntilResponseOrReset := by
  intro n s t hbusy honly hrun
  induction n generalizing s with
  | zero =>
    injection hrun with hrun
    subst hrun
    exact ⟨rfl, Nat.zero_le _⟩
  | succ n ih =>
    obtain ⟨u, hstep, hrun⟩ := run_succ_next hrun
    obtain ⟨e, rest, he, -⟩ := step_next hstep
    rw [he] at honly ⊢
    obtain ⟨hhost, hrest⟩ := List.forall_mem_cons.mp honly
    have hu := step_onlyHost he hbusy hhost hstep
    obtain ⟨ht, hle⟩ := ih u (by rw [hu]; exact hbusy) (by rw [hu]; exact hrest) hrun
    rw [hu] at ht hle
    exact ⟨ht, Nat.succ_le_succ hle⟩

/-! ## The BUS agent's answer does not read the host's fields -/

/-- `s` with another CRC_IN and another word read by the HOST. -/
def withHostFields (s : State) (crcIn : CrcIn) (hostData : Option Word) : State :=
  { s with crcIn := crcIn, hostData := hostData }

section
variable (s : State) (c : CrcIn) (d : Option Word)

theorem advance_withHostFields (k : TransactionStep) (rsp : RspWord) :
    (withHostFields s c d).advance k rsp = withHostFields (s.advance k rsp) c d := by
  cases k <;> rfl

theorem failAt_withHostFields (k : TransactionStep) (status : Byte) :
    (withHostFields s c d).failAt k status = withHostFields (s.failAt k status) c d := by
  unfold State.failAt
  rw [apply_ite (withHostFields · c d)]
  rfl

theorem respondAt_withHostFields (k : TransactionStep) (rsp : RspWord) :
    (withHostFields s c d).respondAt k rsp = withHostFields (s.respondAt k rsp) c d := by
  rw [State.respondAt, advance_withHostFields, failAt_withHostFields]
  exact (apply_ite (withHostFields · c d) _ _ _).symm

theorem closeValidated_withHostFields : (withHostFields s c d).closeValidated = withHostFields s.closeValidated c d := by
  unfold State.closeValidated
  rw [apply_ite (withHostFields · c d)]
  rfl

end

/-- A response that SEQ reacts to met a request that the BUS agent performs (R66, R72). -/
theorem runBus_guards {s t : State} {rsp : RspWord} (h : runBus rsp s = .next t) :
    reqOp s.req ≠ 7#3 ∧ dataWithoutWrite s.req = false := by
  obtain ⟨hreqV, -⟩ := runBus_next h
  have hop : reqOp s.req ≠ 7#3 := by
    intro hop
    rw [runBus_reservedRequest s rsp hreqV hop] at h
    cases h
  refine ⟨hop, Bool.eq_false_iff.mpr fun hdata => ?_⟩
  obtain ⟨hwrite, hdata⟩ : reqOp s.req ≠ 2#3 ∧ reqData s.req ≠ 0#8 := by simpa [dataWithoutWrite] using hdata
  rw [runBus_dataWithoutWrite s rsp hreqV hop hwrite hdata] at h
  cases h

section
variable {s t : State} {rsp : RspWord} (c : CrcIn) (d : Option Word)

/-- SEQ's reaction, by the four that `react_next` tells apart. -/
theorem react_withHostFields (h : react rsp s = .next t) : react rsp (withHostFields s c d) = .next (withHostFields t c d) := by
  rcases react_next h with ⟨hidle, rfl⟩ | ⟨k, hk, rfl⟩ | ⟨hclose, hok, rfl⟩ | ⟨hclose, hfailed, k, hk, rfl⟩
  · exact react_idle rsp hidle
  · rw [react_step (s := withHostFields s c d) rsp hk, respondAt_withHostFields]
  · rw [react_close (s := withHostFields s c d) rsp hclose, ← closeValidated_withHostFields]
    exact if_pos hok
  · rw [react_close (s := withHostFields s c d) rsp hclose]
    exact (if_neg (Bool.eq_false_iff.mp hfailed)).trans (closeFailed_of_pStep hk)

theorem runBus_withHostFields (h : runBus rsp s = .next t) :
    runBus rsp (withHostFields s c d) = .next (withHostFields t c d) := by
  obtain ⟨hreqV, hreact⟩ := runBus_next h
  obtain ⟨hop, hdata⟩ := runBus_guards h
  rw [runBus_eq (s := withHostFields s c d) rsp hreqV hop hdata]
  exact react_withHostFields c d hreact

theorem step_bus_withHostFields {rest : List Event} (he : s.events = .bus rsp :: rest) (h : step s = .next t) :
    step (withHostFields s c d) = .next (withHostFields t c d) := by
  rw [step, he] at h
  obtain ⟨hf, h⟩ := checked_next h
  rw [step_bus (s := withHostFields s c d) he hf]
  exact runBus_withHostFields c d h

end

/-- Settles O56: but for the two fields, the host event leaves the state that the answer would meet at once; what the answer
makes of the one is what it makes of the other, there and back. -/
theorem hostEventsInterleaveFreely : Obligations.HostEventsInterleaveFreely := by
  intro s t u e rsp rest hbusy hhost he hst htu
  have ht := step_onlyHost he hbusy hhost hst
  have hevents : t.events = .bus rsp :: rest := by rw [ht]
  have hatOnce : withHostFields t s.crcIn s.hostData = { s with events := .bus rsp :: rest } := by rw [ht]; rfl
  have hv := step_bus_withHostFields s.crcIn s.hostData hevents htu
  have hback : step t = .next (withHostFields (withHostFields u s.crcIn s.hostData) t.crcIn t.hostData) :=
    step_bus_withHostFields (s := withHostFields t s.crcIn s.hostData) t.crcIn t.hostData hevents hv
  refine ⟨withHostFields u s.crcIn s.hostData, hatOnce ▸ hv, ?_⟩
  injection htu.symm.trans hback

end Sys2Proof.Proofs.Busy
end

section
/-! PROOFS. The host interface (spec/43_host_interface.md R127, R129, R130, R132, R133; 93_implementation_defined.md U18): the
conversion, the writes of the window, the reserved offset, and RAW as a reading. -/

namespace Sys2Proof.Proofs.HostInterface

open Sys2Proof Sys2Proof.Machine

/-! ## The conversion -/

/-- R132: a positive slope. -/
theorem primaryPhysical_le_iff (a b : Raw) : primaryPhysical a ≤ primaryPhysical b ↔ a ≤ b := by
  rw [BitVec.le_def, ← Nat.cast_le (α := ℚ), primaryPhysical, primaryPhysical]
  constructor <;> intro h <;> linarith

/-- R132: a positive slope. -/
theorem secondaryPhysical_le_iff (a b : Raw) : secondaryPhysical a ≤ secondaryPhysical b ↔ a ≤ b := by
  rw [BitVec.le_def, ← Nat.cast_le (α := ℚ), secondaryPhysical, secondaryPhysical]
  constructor <;> intro h <;> linarith

theorem primaryPhysical_zero : primaryPhysical 0x0000#16 = -49 := by norm_num [primaryPhysical]

theorem primaryPhysical_max : primaryPhysical 0xFFFF#16 = 266 := by norm_num [primaryPhysical]

theorem secondaryPhysical_zero : secondaryPhysical 0x0000#16 = 0 := by norm_num [secondaryPhysical]

theorem secondaryPhysical_max : secondaryPhysical 0xFFFF#16 = 100 := by norm_num [secondaryPhysical]

/-- Settles O55: the range lies between the end values because both conversions keep the order of the raw values, and the
primary one tells them apart because it reflects that order. -/
theorem physicalValuesInRange : Obligations.PhysicalValuesInRange := by
  refine ⟨primaryPhysical_zero, primaryPhysical_max, secondaryPhysical_zero, secondaryPhysical_max, fun raw => ?_,
    fun a b heq => ?_⟩
  · have hmin : 0x0000#16 ≤ raw := BitVec.le_def.mpr (Nat.zero_le _)
    have hmax : raw ≤ 0xFFFF#16 := BitVec.le_def.mpr (Nat.le_sub_one_of_lt raw.isLt)
    rw [← primaryPhysical_zero, ← primaryPhysical_max, ← secondaryPhysical_zero, ← secondaryPhysical_max]
    simp only [primaryPhysical_le_iff, secondaryPhysical_le_iff]
    exact ⟨hmin, hmax, hmin, hmax⟩
  · exact BitVec.le_antisymm ((primaryPhysical_le_iff a b).mp heq.le) ((primaryPhysical_le_iff b a).mp heq.ge)

/-! ## Writes of the window -/

/-- R127: CRC_IN takes the three bytes, in every state. -/
theorem exec_wrCrcIn (data : Word) (s : State) : exec (.wrCrcIn data) s = .next (s.setCrcIn (splitCrcIn data)) := rfl

/-- Settles O12: MATCH and REM are computed from CRC_IN (R33). -/
theorem crcInWriteSplitsData : Obligations.CrcInWriteSplitsData :=
  fun s data => ⟨_, exec_wrCrcIn data s, rfl, rfl, rfl⟩

/-- R50. -/
theorem ignoredWrite_next (data : Word) (s : State) : ignoredWrite data s = .next s := rfl

/-- Settles O13: the five operations are the ignored write. -/
theorem readOnlyWritesIgnored : Obligations.ReadOnlyWritesIgnored := by
  intro s data
  have hignored := ignoredWrite_next data s
  exact ⟨hignored, hignored, hignored, hignored, hignored⟩

/-- Settles O14. -/
theorem reservedOffset : Obligations.ReservedOffset :=
  fun s data => ⟨exec_readInstr .rsv s, ignoredWrite_next data s⟩

/-! ## RAW as a reading -/

/-- R133: while OUTCOME = OK the use as a reading is the plain read, and gives the register's word. -/
theorem readAsReading_ok {s : State} (reg : HostReg) (hf : foundFault s = none) (hok : s.outcome = outOk) :
    readAsReading reg s = .done (readWord s reg) (s.deliver (readWord s reg)) := by
  rw [readAsReading, if_pos hok, hostRead_eq reg hf]

/-- R133, U18. -/
theorem readAsReading_stale {s : State} (reg : HostReg) (hstale : s.outcome ≠ outOk) :
    readAsReading reg s = .fault .staleRaw := by
  rw [readAsReading, if_neg hstale]

/-- The read of RAW_P already is the fault: the read of RAW_S is not made. -/
theorem useRaw_stale (g : Nat) {s : State} (hstale : s.outcome ≠ outOk) : useRaw g s = .fault .staleRaw := by
  rw [useRaw, readAsReading_stale .rawP hstale]
  rfl

/-- Both reads, with nothing between them: the second meets the registers of the first. -/
theorem useRaw_ok {s : State} (hf : foundFault s = none) (hok : s.outcome = outOk) :
    useRaw 0 s = .done { primaryValue := s.rawP, secondaryValue := s.rawS } { s with hostData := some (s.rawS.setWidth 32) } := by
  have hsecond := readAsReading_ok (s := s.deliver (readWord s .rawP)) .rawS hf hok
  rw [useRaw, readAsReading_ok .rawP hf hok, andThen_done, elapse_zero, andThen_done, hsecond, andThen_done]
  simp only [readWord, raw_of_word]
  rfl

/-- Settles O59. -/
theorem staleRawIsAHostFault : Obligations.StaleRawIsAHostFault :=
  fun g _ => ⟨useRaw_stale g, useRaw_ok, hostRead_eq .rawP⟩

end Sys2Proof.Proofs.HostInterface
end
